-- ==== Sys2Proof/Word.lean ====
section
/-!
DEFINITION. The word types of the block: 16-bit duty values and table entries
(00_scope.md R9), and the 3-bit event word (30_encoding.md R70).
-/

namespace Sys2Proof

/-- A duty value, a table entry or a configuration constant: 16 bits, unsigned (R9, R32). -/
abbrev Word := BitVec 16

/-- The event word `EV` of 3 bits: the block's instruction (R70). -/
abbrev EventWord := BitVec 3

/-- A calibration table: 12 entries of 16 bits, numbered 0 to 11 (R50). -/
abbrev Table := Vector Word 12

/-- The number of a table entry, 0 to 11: the range of `m_index` and `h_index` at every
instant (R25, R26). Its addition is the modulo-12 addition of R96 and R97. -/
abbrev TableIndex := Fin 12

end Sys2Proof
end

