-- ==== Sys2Proof/Syntax.lean ====
section
/-!
DEFINITION. The operations of the block, one constructor per row of spec/opcode_table.json.
-/

namespace Sys2Proof

/-- The operations of 00_scope.md R11 and the power-on RESET. The operand `on` is the level of
the other button's input at delivery: `true` is 1, at rest; `false` is 0, pressed (30_encoding.md
R73; log 13). -/
inductive Instr where
  /-- One occurrence of the periodic timer signal (R122). -/
  | timer
  /-- The minute-button event; `on` is the level of the hour-button input (R124). -/
  | btnm (on : Bool)
  /-- The hour-button event; `on` is the level of the minute-button input (R126). -/
  | btnh (on : Bool)
  /-- One minute-step of the Calibration Engine, delivered at the core port (R91, R92). -/
  | step
  /-- The Minute Advancer, internal: called by TIMER only, no event word (R120, R121). -/
  | advance
  /-- Power-on, no event word (R180). -/
  | reset
  deriving DecidableEq, Repr

end Sys2Proof
end

