-- ==== Sys2Proof/WellFormed.lean ====
section
/-!
DEFINITION. Which operations can be delivered as an event word. (The well-formedness of a
configuration, `WFCfg`, and of a state, `WF`, are in Machine/WellFormedness.lean.)
-/

namespace Sys2Proof

/-- An operation is well formed as an instruction when it is an event: TIMER, BTNM, BTNH or, at
the core port, STEP. ADVANCE and RESET are internal and have no event word (30_encoding.md R72,
R77). -/
def Instr.wellFormed : Instr → Bool
  | .timer => true
  | .btnm _ => true
  | .btnh _ => true
  | .step => true
  | .advance => false
  | .reset => false

/-- The source alphabet: the events of the source's three trigger sources. A claim about the
device quantifies over traces of these only (30_encoding.md R72). -/
def Instr.fromDevice : Instr → Bool
  | .timer => true
  | .btnm _ => true
  | .btnh _ => true
  | .step => false
  | .advance => false
  | .reset => false

end Sys2Proof
end

