-- ==== Sys2Proof/Decode.lean ====
section
/-!
DEFINITION. The event word, its decoder and its encoder (30_encoding.md R70, R72, R73, R75, R76).
-/

namespace Sys2Proof

/-- Why a word is not an event. -/
inductive DecodeReject where
  /-- One of the two reserved words `0b000` and `0b011`, to which the spec gives no meaning
  (R76). -/
  | reservedEvent (w : EventWord)
  deriving DecidableEq, Repr

/-- The field `op`, `EV[1:0]` (R70). -/
def opField (w : EventWord) : BitVec 2 := w.extractLsb' 0 2

/-- The field `on`, `EV[2]`, as a level: `true` is 1 (R70, R73). -/
def onField (w : EventWord) : Bool := w.getLsbD 2

/-- The decoder: total on the eight words, by the fields of R72 and R73. TIMER and STEP carry
`on = 1`; with `on = 0` the word is reserved (R75, R76). -/
def decode (w : EventWord) : Except DecodeReject Instr :=
  match (opField w).toNat, onField w with
  | 0, true => .ok .timer
  | 0, false => .error (.reservedEvent w)
  | 1, on => .ok (.btnm on)
  | 2, on => .ok (.btnh on)
  | _, true => .ok .step
  | _, false => .error (.reservedEvent w)

/-- `{on, op}`, the event word of R70 with `on` in bit 2. -/
def eventWord (on : Bool) (op : BitVec 2) : EventWord := BitVec.ofBool on ++ op

/-- The encoder, from the same table (R72, R75). ADVANCE and RESET have no word (R77). -/
def encode : Instr → Option EventWord
  | .timer => some (eventWord true 0b00)
  | .btnm on => some (eventWord on 0b01)
  | .btnh on => some (eventWord on 0b10)
  | .step => some (eventWord true 0b11)
  | .advance => none
  | .reset => none

/-- The event word in an instruction whose low `nbits` bits are given by `w` and whose other bits
are 0: the port is three wires wide, so bits above bit 2 do not exist (R70; log 11). -/
def eventOfTableWord (nbits w : Nat) : EventWord := BitVec.ofNat 3 (w % 2 ^ nbits)

/-- The operation the decoder reads from the bits `w` of an opcode-table row of `nbits` bits. -/
def decodeTableWord (nbits w : Nat) : Option Instr :=
  match decode (eventOfTableWord nbits w) with
  | .ok i => some i
  | .error _ => none

end Sys2Proof
end

