-- ==== Sys2Proof/Config.lean ====
section
/-!
DEFINITION. The configuration record `Cfg` of 00_scope.md R6 and the documented default.
`Cfg` is fixed at build time: no operation writes it (R6, R32). The model carries it in State,
so that every statement can be made for every configuration (log 2).
-/

namespace Sys2Proof

/-- The build-time constants and the two calibration tables (R6), under the spec's names. -/
structure Cfg where
  /-- Timer events per minute-step, `ticksPerMinute`. -/
  TPM : Word
  /-- Floor and reset value of `m_on`, `minuteZeroOffset`. -/
  MZ : Word
  /-- Floor and reset value of `h_on`, `hourZeroOffset`. -/
  HZ : Word
  /-- Duty span of each 5-minute segment of the minute meter, `minuteCalibrationTable`. -/
  MT : Table
  /-- Duty span of each hour segment of the hour meter, `hourCalibrationTable`. -/
  HT : Table
  /-- PWM period of the minute channel, `minutePWMPeriod`. -/
  MP : Word
  /-- PWM period of the hour channel, `hourPWMPeriod`. -/
  HP : Word
  deriving DecidableEq, Repr

/-- The configuration `State.reset` carries: the documented defaults of R6 and R7.
DESIGN CHOICE, unsafe (log 3): entries 1 to 11 of each table are OPEN in the spec (N1, D9);
they stand here at 0, a legal entry (R34), and no statement rests on them. -/
def Cfg.documented : Cfg where
  TPM := 60
  MZ := 5
  HZ := 5
  MT := #v[640, 0, 0, 0, 0, 0, 0, 0, 0, 0, 0, 0]
  HT := #v[744, 0, 0, 0, 0, 0, 0, 0, 0, 0, 0, 0]
  MP := 10000
  HP := 10000

end Sys2Proof
end

