-- ==== Sys2Proof/Machine/State.lean ====
section
/-!
DEFINITION. The state of the block, the reasons a step can stop, and the state after reset.
-/

namespace Sys2Proof.Machine

/-- What the PWM consumer can see at the end of a STEP: one element of the output history
(42_pwm_output.md R144). -/
structure DutyPair where
  /-- `pwm_m_on`. -/
  m_on : Word
  /-- `pwm_h_on`. -/
  h_on : Word
  deriving DecidableEq, Repr

/-- The block's state: the ten registers of 10_state.md R20 to R29 under the spec's names, the
configuration (R32), the recorded outputs (R144) and the trace still to be delivered. -/
structure State where
  /-- The second counter, 6 bits (R20). -/
  sec : BitVec 6
  /-- The minute duty accumulator, also the `onDuration` of the minute channel (R21, R140). -/
  m_on : Word
  /-- The hour duty accumulator, also the `onDuration` of the hour channel (R22, R140). -/
  h_on : Word
  /-- Minute-steps since the last 5-minute mark, 3 bits (R23). -/
  m_tick : BitVec 3
  /-- 5-minute marks since the last hour boundary, 4 bits (R24). -/
  h_tick : BitVec 4
  /-- The read address of `MT`, 0 to 11 at every instant (R25; log 4). -/
  m_index : TableIndex
  /-- The read address of `HT`, 0 to 11 at every instant (R26; log 4). -/
  h_index : TableIndex
  /-- Minute-steps since the last hour boundary, 6 bits (R27). -/
  m_cntr : BitVec 6
  /-- Hour boundaries since the last 12-hour wrap, 4 bits (R28). -/
  h_cntr : BitVec 4
  /-- The debounce suppression flag (R29). -/
  db : Bool
  /-- The configuration: written by no operation, unchanged by reset (R32, R39). -/
  cfg : Cfg
  /-- The output history: the reset pair, then one pair at the end of each STEP, oldest first
  (R144). -/
  history : List DutyPair
  /-- The model's own field (log 1): the event words the environment has yet to deliver, next
  first. A model takes such a trace as its input (60_exceptions.md R154). -/
  events : List EventWord
  deriving DecidableEq, Repr

/-- The faults of the block: none. It raises no exception and no operation can fail
(60_exceptions.md R158, 40_step.md R102), so no constructor stands here. Safe: nothing that the
block does is hidden by a fault. -/
inductive Fault where
  deriving DecidableEq, Repr

/-- Inputs the spec gives no meaning, which a model refuses by name (60_exceptions.md R162). -/
inductive Refusal where
  /-- An instruction without a meaning yet; no arm of `exec` raises it. Safe. -/
  | notModelled (mnemonic : String)
  /-- Raised by `step` when the delivered word is reserved, `0b000` or `0b011` (R76). Safe: the
  spec gives it no meaning. -/
  | reservedEvent (w : EventWord)
  /-- Raised by every operation, and by idling, when the configuration fails `WFCfg` (R34, R162).
  Safe: nothing is computed. -/
  | badConfiguration
  /-- Raised by every operation but RESET, and by idling, when the state fails `WF` (R35, R162).
  Safe: no trace from reset reaches such a state. -/
  | stateOutsideWF
  deriving DecidableEq, Repr

/-- What RESET leaves under configuration `c`, before any event is given (10_state.md R39,
70_reset_and_hazards.md R180): counters, indices and `db` 0, the accumulators at their zero
offsets, and the outputs shown once (R141). -/
def State.powerOn (c : Cfg) : State where
  sec := 0
  m_on := c.MZ
  h_on := c.HZ
  m_tick := 0
  h_tick := 0
  m_index := 0
  h_index := 0
  m_cntr := 0
  h_cntr := 0
  db := false
  cfg := c
  history := [⟨c.MZ, c.HZ⟩]
  events := []

/-- The machine right after reset, under the documented default configuration (log 3). -/
def State.reset : State := State.powerOn Cfg.documented

end Sys2Proof.Machine
end

