-- ==== Sys2Proof/Machine/Operands.lean ====
section
/-!
DEFINITION. Where the operations take their numbers from: the tables, the quotients of their
entries, `add16`, and the operand `on` (00_scope.md R8, R10; 20_memory.md R52, R53).
-/

namespace Sys2Proof.Machine

/-- `SEG`: minute-steps per minute-meter segment (R8). -/
def segSteps : Nat := 5

/-- `NSEG`: entries per table, segments per hour, hour sub-ticks per hour (R8). -/
def nseg : Nat := 12

/-- `MPH`: minute-steps per hour (R8). -/
def minutesPerHour : Nat := 60

/-- `HPC`: hours per cycle (R8). -/
def hoursPerCycle : Nat := 12

/-- `BURST`: STEPs per acting hour-button event (R8). -/
def burstSteps : Nat := 60

/-- `LutRead(T, i)`: one whole entry; no read is out of range, by the index's type (R10, R52,
R55). -/
def lutRead (t : Table) (i : TableIndex) : Word := t[i]

/-- `add16(a, b) = (a + b) mod 2^16` (R10). -/
def add16 (a b : Word) : Word := a + b

/-- `a div b`, the floor of the unsigned quotient (R10). -/
def divConst (a : Word) (b : Nat) : Word := BitVec.ofNat 16 (a.toNat / b)

/-- The minute increment `LutRead(MT, m_index) div 5` (R53, R94). -/
def minuteIncrement (s : State) : Word := divConst (lutRead s.cfg.MT s.m_index) segSteps

/-- The hour increment `LutRead(HT, h_index) div 12` (R53, R95). -/
def hourIncrement (s : State) : Word := divConst (lutRead s.cfg.HT s.h_index) nseg

/-- The next table entry: `(index + 1) mod 12` (R96, R97). -/
def nextIndex (i : TableIndex) : TableIndex := i + 1

/-- The operand `on` read as "the other button is at rest" (R73): 1 is not pressed. -/
def otherAtRest (on : Bool) : Bool := on

end Sys2Proof.Machine
end

