-- ==== Sys2Proof/Machine/Flags.lean ====
section
/-!
DEFINITION. The one flag `db` and the conditions of the operations. The carries of STEP are
conditions, evaluated and consumed inside STEP and never stored (10_state.md R29).
-/

namespace Sys2Proof.Machine

/-- The carry out of the minute sub-tick: `m_tick == 5` (40_step.md R95). -/
def minuteCarry (s : State) : Bool := s.m_tick.toNat == segSteps

/-- The carry out of the hour sub-tick: `h_tick == 12` (R97). -/
def hourCarry (s : State) : Bool := s.h_tick.toNat == nseg

/-- The hour boundary: `m_cntr >= 60` (R98). -/
def atHourBoundary (s : State) : Bool := decide (minutesPerHour ≤ s.m_cntr.toNat)

/-- The half-day boundary: `h_cntr >= 12` (R99). -/
def atHalfDay (s : State) : Bool := decide (hoursPerCycle ≤ s.h_cntr.toNat)

/-- The second counter has reached `Cfg.TPM`: `sec == Cfg.TPM`, the 6-bit counter zero-extended
(41_dispatch.md R122). -/
def minuteDue (s : State) : Bool := s.sec.toNat == s.cfg.TPM.toNat

/-- A button event acts: `db == 0 and on == 1` (R124, R126). -/
def buttonActs (s : State) (on : Bool) : Bool := !s.db && otherAtRest on

/-- `db <- 1`: the debounce window opens (R124, R126). -/
def openWindow (s : State) : State := { s with db := true }

/-- `db <- 0`: the debounce window ends (R122, R123). -/
def closeWindow (s : State) : State := { s with db := false }

end Sys2Proof.Machine
end

