-- ==== Sys2Proof/Machine/WellFormedness.lean ====
section
/-!
DEFINITION. `WFCfg` and `DutyFits` of a configuration (10_state.md R33, R34) and `WF` of a state
(R35), as Bool checks.
-/

namespace Sys2Proof.Machine

/-- The entries of a table as integers, in order. -/
def entries (t : Table) : List Nat := t.toList.map BitVec.toNat

/-- The sum of a table's entries over the integers (R34). -/
def tableSum (t : Table) : Nat := (entries t).sum

/-- R33, R34 (a): every `MT` entry divisible by 5, every `HT` entry by 12. -/
def divisibleOk (c : Cfg) : Bool :=
  (entries c.MT).all (fun e => e % 5 == 0) && (entries c.HT).all (fun e => e % 12 == 0)

/-- R34 (b): no duty value, transient or not, exceeds 16 bits. -/
def sumsOk (c : Cfg) : Bool :=
  decide (c.MZ.toNat + tableSum c.MT ≤ 65535) && decide (c.HZ.toNat + tableSum c.HT ≤ 65535)

/-- R34 (c): `TPM` is 60. -/
def ticksOk (c : Cfg) : Bool := c.TPM.toNat == 60

/-- R34 (d): the periods are in 1 to 65535 (the upper bound is their width). -/
def periodsOk (c : Cfg) : Bool := decide (1 ≤ c.MP.toNat) && decide (1 ≤ c.HP.toNat)

/-- `WFCfg(Cfg)` of R34. -/
def wfCfg (c : Cfg) : Bool := divisibleOk c && sumsOk c && ticksOk c && periodsOk c

/-- `DutyFits(Cfg)` of R34: no duty value exceeds its period. Not part of `WFCfg`; nothing
depends on it (R146). -/
def dutyFits (c : Cfg) : Bool :=
  decide (c.MZ.toNat + tableSum c.MT ≤ c.MP.toNat) &&
    decide (c.HZ.toNat + tableSum c.HT ≤ c.HP.toNat)

/-- `WF(s)` of R35. The two indices are at most 11 by their type (log 4). -/
def wfState (s : State) : Bool :=
  decide (s.sec.toNat ≤ 59) && decide (s.m_tick.toNat ≤ 4) && decide (s.h_tick.toNat ≤ 11) &&
    decide (s.m_cntr.toNat ≤ 59) && decide (s.h_cntr.toNat ≤ 11)

end Sys2Proof.Machine
end

