-- ==== Sys2Proof/Machine/Ops.lean ====
section
/-!
DEFINITION. The shared operations: the sub-steps of STEP and STEP itself (40_step.md R92), the
Minute Advancer (41_dispatch.md R120), repetition, the reset of R180, and the guard under which
every operation runs. There is no exception to take and none to return from (60_exceptions.md
R157, R158).
-/

namespace Sys2Proof.Machine

/-! ### The register updates of the six sub-steps -/

/-- Sub-step 1: `m_tick` and `m_cntr` count (R93). -/
def countMinute (s : State) : State := { s with m_tick := s.m_tick + 1, m_cntr := s.m_cntr + 1 }

/-- Sub-step 2: the minute accumulator takes its increment (R94). -/
def accumulateMinute (s : State) : State := { s with m_on := add16 s.m_on (minuteIncrement s) }

/-- Sub-step 3a: the minute index advances modulo 12 (R96). -/
def advanceMinuteIndex (s : State) : State := { s with m_index := nextIndex s.m_index }

/-- Sub-steps 3b and 3c: `m_tick` is cleared and carries into `h_tick` (R95). -/
def carryIntoHourTick (s : State) : State := { s with m_tick := 0, h_tick := s.h_tick + 1 }

/-- Sub-step 3d: the hour accumulator takes its increment (R95). -/
def accumulateHour (s : State) : State := { s with h_on := add16 s.h_on (hourIncrement s) }

/-- Sub-steps 4a and 4b: the hour index advances modulo 12, `h_tick` is cleared (R97). -/
def carryIntoHourIndex (s : State) : State :=
  { s with h_index := nextIndex s.h_index, h_tick := 0 }

/-- The six assignments of sub-step 5 (R98). -/
def wrapMinuteSide (s : State) : State :=
  { s with m_on := s.cfg.MZ, m_index := 0, m_tick := 0, m_cntr := 0, h_tick := 0,
           h_cntr := s.h_cntr + 1 }

/-- The three assignments of sub-step 6 (R99). -/
def wrapHourSide (s : State) : State := { s with h_on := s.cfg.HZ, h_index := 0, h_cntr := 0 }

/-- The pair of duty values the registers hold now (42_pwm_output.md R140, R144). -/
def dutyNow (s : State) : DutyPair := ⟨s.m_on, s.h_on⟩

/-- The end of a STEP: the consumer sees one new pair (20_memory.md R60, 42_pwm_output.md R142,
R144). -/
def showOutputs (s : State) : State := { s with history := s.history ++ [dutyNow s] }

/-! ### STEP -/

/-- Sub-step 3 (R95). -/
def subStep3 (s : State) : State :=
  if minuteCarry s then accumulateHour (carryIntoHourTick (advanceMinuteIndex s)) else s

/-- Sub-step 4, tested in every STEP (R97). -/
def subStep4 (s : State) : State := if hourCarry s then carryIntoHourIndex s else s

/-- Sub-step 5, tested in every STEP (R98). -/
def subStep5 (s : State) : State := if atHourBoundary s then wrapMinuteSide s else s

/-- Sub-step 6, tested in every STEP (R99). -/
def subStep6 (s : State) : State := if atHalfDay s then wrapHourSide s else s

/-- STEP: the six sub-steps in order, each seeing the writes of those before it, then the new
outputs (R92, R100, R142). -/
def minuteStep (s : State) : State :=
  showOutputs (subStep6 (subStep5 (subStep4 (subStep3 (accumulateMinute (countMinute s))))))

/-- `repeat n times: call STEP` (R10, R126). -/
def minuteSteps : Nat → State → State
  | 0, s => s
  | n + 1, s => minuteSteps n (minuteStep s)

/-! ### The dispatcher's updates -/

/-- `sec <- 0` (41_dispatch.md R120, R124). -/
def clearSeconds (s : State) : State := { s with sec := 0 }

/-- `sec <- sec + 1` (R122). -/
def countSecond (s : State) : State := { s with sec := s.sec + 1 }

/-- ADVANCE: `call STEP; sec <- 0` (R120). -/
def advanceOneMinute (s : State) : State := clearSeconds (minuteStep s)

/-- RESET: every register, the configuration kept, and the output history begins anew (10_state.md
R39, 70_reset_and_hazards.md R180, R181, R144). The environment's own list of words is not the
block's and stands (log 6). -/
def resetRegisters (s : State) : State := { State.powerOn s.cfg with events := s.events }

/-! ### The guard -/

/-- An operation is defined under a configuration that satisfies `WFCfg`; any other is refused
(R34, R162). -/
def underWFCfg (f : State → State) (s : State) : Host.Outcome State Fault Refusal :=
  if wfCfg s.cfg then .next (f s) else .refused .badConfiguration

/-- An operation is defined on a state that satisfies `WF` under a `WFCfg` configuration; anything
else is refused by name (R34, R35, R162; log 5). -/
def perform (f : State → State) (s : State) : Host.Outcome State Fault Refusal :=
  if wfCfg s.cfg then if wfState s then .next (f s) else .refused .stateOutsideWF
  else .refused .badConfiguration

/-- Nothing is delivered: the block is idle and every register stands (30_encoding.md R71,
41_dispatch.md R130, 60_exceptions.md R169). -/
def idle (s : State) : Host.Outcome State Fault Refusal := perform (fun t => t) s

/-! ### Delivery -/

/-- The delivery of the next word of the trace: one word is consumed (R71). -/
def nextEvent (s : State) : Option (EventWord × State) :=
  match s.events with
  | [] => none
  | w :: rest => some (w, { s with events := rest })

/-- A word the decoder rejects is refused by its name (R76). -/
def rejectEvent : DecodeReject → Host.Outcome State Fault Refusal
  | .reservedEvent w => .refused (.reservedEvent w)

/-- The environment delivers `w` next. -/
def deliverNext (w : EventWord) (s : State) : State := { s with events := w :: s.events }

end Sys2Proof.Machine
end

