-- ==== Sys2Proof/Machine/Dispatcher.lean ====
section
/-!
DEFINITION. The operations around the core: ADVANCE, TIMER, BTNM, BTNH (41_dispatch.md).
-/

namespace Sys2Proof.Machine

/-- The state TIMER leaves: the release of the debounce window, or one counted second and, when a
minute is due, ADVANCE (R122, R123). -/
def timerSignal (s : State) : State :=
  if s.db then closeWindow s
  else if minuteDue (countSecond s) then advanceOneMinute (countSecond s) else countSecond s

/-- The state BTNM leaves: `sec <- 0`, one STEP, `db <- 1` when it acts; else nothing changes
(R124, R128, R129). -/
def minuteButton (on : Bool) (s : State) : State :=
  if buttonActs s on then openWindow (minuteStep (clearSeconds s)) else s

/-- The state BTNH leaves: 60 STEPs, `db <- 1` when it acts, `sec` untouched; else nothing changes
(R126, R128, R129). -/
def hourButton (on : Bool) (s : State) : State :=
  if buttonActs s on then openWindow (minuteSteps burstSteps s) else s

/-- TIMER (R122). -/
def execTimer (s : State) : Host.Outcome State Fault Refusal := perform timerSignal s

/-- BTNM (R124). -/
def execBtnm (on : Bool) (s : State) : Host.Outcome State Fault Refusal :=
  perform (minuteButton on) s

/-- BTNH (R126). -/
def execBtnh (on : Bool) (s : State) : Host.Outcome State Fault Refusal :=
  perform (hourButton on) s

/-- ADVANCE, as an operation of its own (R120; log 10). -/
def execAdvance (s : State) : Host.Outcome State Fault Refusal := perform advanceOneMinute s

end Sys2Proof.Machine
end

