-- ==== Sys2Proof/Machine/Engine.lean ====
section
/-!
DEFINITION. The core's operation, and power-on.
-/

namespace Sys2Proof.Machine

/-- STEP as an event of the core port: R92 once, whatever `db` is; `sec` and `db` stand
(40_step.md R91, R92). -/
def execStep (s : State) : Host.Outcome State Fault Refusal := perform minuteStep s

/-- RESET: defined whatever the registers hold, since it writes every one
(70_reset_and_hazards.md R180). -/
def execReset (s : State) : Host.Outcome State Fault Refusal := underWFCfg resetRegisters s

end Sys2Proof.Machine
end

