-- ==== Sys2Proof/Machine/Dispatch.lean ====
section
/-!
DEFINITION. One arm per operation, each one direct call of its meaning.
-/

namespace Sys2Proof.Machine

def exec (i : Instr) (s : State) : Host.Outcome State Fault Refusal :=
  match i with
  | .timer => Sys2Proof.Machine.execTimer s
  | .btnm on => Sys2Proof.Machine.execBtnm on s
  | .btnh on => Sys2Proof.Machine.execBtnh on s
  | .step => Sys2Proof.Machine.execStep s
  | .advance => Sys2Proof.Machine.execAdvance s
  | .reset => Sys2Proof.Machine.execReset s

end Sys2Proof.Machine
end

