-- ==== Sys2Proof/Machine/Step.lean ====
section
/-!
DEFINITION. One step of the machine: the delivery of the next event, run to completion.
-/

namespace Sys2Proof.Machine

/-- The machine's step (30_encoding.md R71): idle when nothing is delivered; else one event word
is consumed, decoded and performed from its first to its last line (60_exceptions.md R153). -/
def step (s : State) : Host.Outcome State Fault Refusal :=
  match nextEvent s with
  | none => idle s
  | some (w, t) =>
    match decode w with
    | .ok i => exec i t
    | .error e => rejectEvent e

/-- `s` with the word `w` delivered next: the very next step runs it. There is no stored program
and no fetch address (10_state.md R31; log 1). -/
def State.withFetchWord (s : State) (nbits w : Nat) : State :=
  deliverNext (eventOfTableWord nbits w) s

end Sys2Proof.Machine
end

