-- ==== Sys2Proof/Machine/Outputs.lean ====
section
/-!
DEFINITION. The output ports of the block: two PWM channels and `tmr_fast` (42_pwm_output.md). The
waveform generator behind the channels is not part of the block (R145, R146).
-/

namespace Sys2Proof.Machine

/-- What a PWM channel presents to its waveform generator, in PWM counts (R140). -/
structure PwmPair where
  /-- The channel's `period`. -/
  period : Word
  /-- The channel's `onDuration`. -/
  onDuration : Word
  deriving DecidableEq, Repr

/-- The minute channel: `(Cfg.MP, m_on)` (R140). -/
def pwmMinute (s : State) : PwmPair := ⟨s.cfg.MP, s.m_on⟩

/-- The hour channel: `(Cfg.HP, h_on)` (R140). -/
def pwmHour (s : State) : PwmPair := ⟨s.cfg.HP, s.h_on⟩

/-- The output `tmr_fast`: 1 selects the debounce interval of the external timer; it equals `db`
(R147). -/
def tmrFast (s : State) : Bool := s.db

end Sys2Proof.Machine
end

