-- ==== Sys2Proof/Machine/Trace.lean ====
section
/-!
DEFINITION. Traces: their words, their text and its pseudo-instructions (30_encoding.md R79, R80).
What R79 leaves open of the text (white space, numbers) is fixed in log 16.
-/

namespace Sys2Proof.Machine

/-- The event words of a trace (R75, R79). -/
def traceWords (is : List Instr) : List EventWord := is.filterMap encode

/-- `s` with the trace `is` to be delivered (R154). -/
def withTrace (s : State) (is : List Instr) : State := { s with events := traceWords is }

/-- `REP n { body }` (R80). -/
def repTrace (n : Nat) (body : List Instr) : List Instr := (List.replicate n body).flatten

/-- `TICKS n` is `REP n { TIMER }` (R80). -/
def ticks (n : Nat) : List Instr := repTrace n [.timer]

/-- The event word as one hexadecimal digit (R79). -/
def hexDigit (w : EventWord) : Char := Char.ofNat (48 + w.toNat)

/-- The tokens of the trace text. -/
inductive Token where
  /-- A mnemonic or a number. -/
  | word (cs : List Char)
  /-- The end of an event: a line's end or a semicolon (R79). -/
  | sep
  /-- The brace that opens a body of REP (R80). -/
  | opening
  /-- The brace that closes a body of REP (R80). -/
  | closing
  deriving DecidableEq, Repr

/-- The word read so far, if any, before the tokens that follow. -/
def flushWord (acc : List Char) (rest : List Token) : List Token :=
  match acc with
  | [] => rest
  | _ => .word acc.reverse :: rest

/-- The tokens of a text; `acc` is the word being read, reversed, and `inComment` holds from `#` to
the end of the line (R79). -/
def lexTrace : List Char → List Char → Bool → List Token
  | [], acc, _ => flushWord acc []
  | c :: cs, acc, true =>
    if c = '\n' then flushWord acc (.sep :: lexTrace cs [] false) else lexTrace cs acc true
  | c :: cs, acc, false =>
    if c = '#' then flushWord acc (lexTrace cs [] true)
    else if c = '\n' || c = ';' then flushWord acc (.sep :: lexTrace cs [] false)
    else if c.toNat = 123 then flushWord acc (.opening :: lexTrace cs [] false)
    else if c.toNat = 125 then flushWord acc (.closing :: lexTrace cs [] false)
    else if c = ' ' || c = '\t' || c = '\r' then flushWord acc (lexTrace cs [] false)
    else lexTrace cs (c :: acc) false

/-- A decimal number. -/
def readNumber (cs : List Char) : Option Nat :=
  match cs with
  | [] => none
  | _ =>
    if cs.all (fun c => decide (48 ≤ c.toNat) && decide (c.toNat ≤ 57)) then
      some (cs.foldl (fun n c => 10 * n + (c.toNat - 48)) 0)
    else none

/-- The operand of BTNM and BTNH: `0`, `1`, or none, which is `1` (R79, R80). -/
def readLevel : List Token → Bool × List Token
  | .word ['0'] :: rest => (false, rest)
  | .word ['1'] :: rest => (true, rest)
  | rest => (true, rest)

/-- An event ends at a separator, at a closing brace or at the end of the text (R79). -/
def endsEvent : List Token → Bool
  | [] => true
  | .sep :: _ => true
  | .closing :: _ => true
  | _ => false

/-- The trace a token list starts with, up to the brace that closes it or its end, and what is
left; `none` where it is no trace. The fuel is a bound on the tokens read. -/
def parseTrace : Nat → List Token → Option (List Instr × List Token)
  | 0, _ => none
  | _ + 1, [] => some ([], [])
  | _ + 1, .closing :: rest => some ([], .closing :: rest)
  | _ + 1, .opening :: _ => none
  | n + 1, .sep :: rest => parseTrace n rest
  | n + 1, .word cs :: rest =>
    let item : Option (List Instr × List Token) :=
      if cs = ['T', 'I', 'M', 'E', 'R'] then some ([.timer], rest)
      else if cs = ['S', 'T', 'E', 'P'] then some ([.step], rest)
      else if cs = ['B', 'T', 'N', 'M'] then some ([.btnm (readLevel rest).1], (readLevel rest).2)
      else if cs = ['B', 'T', 'N', 'H'] then some ([.btnh (readLevel rest).1], (readLevel rest).2)
      else if cs = ['T', 'I', 'C', 'K', 'S'] then
        match rest with
        | .word k :: rest => (readNumber k).map (fun k => (ticks k, rest))
        | _ => none
      else if cs = ['R', 'E', 'P'] then
        match rest with
        | .word k :: .opening :: rest =>
          match readNumber k, parseTrace n rest with
          | some k, some (body, .closing :: rest) => some (repTrace k body, rest)
          | _, _ => none
        | _ => none
      else none
    match item with
    | none => none
    | some (is, rest) =>
      if endsEvent rest then
        match parseTrace n rest with
        | some (js, rest) => some (is ++ js, rest)
        | none => none
      else none

/-- The trace a text stands for, with its pseudo-instructions expanded; ADVANCE and RESET cannot be
written (R79, R80). -/
def assembleTrace (text : List Char) : Option (List Instr) :=
  let tokens := lexTrace text [] false
  match parseTrace (tokens.length + 1) tokens with
  | some (is, []) => some is
  | _ => none

end Sys2Proof.Machine
end

