-- ==== Sys2Proof/Machine/Triggers.lean ====
section
/-!
DEFINITION. The trigger front end: how triggers become the trace of delivered events
(60_exceptions.md R150 to R156). Its pending flags are hidden and are no part of State (10_state.md
R38, D14; log 8); the order of delivery is the schedule's, so every order is admitted (R154).
-/

namespace Sys2Proof.Machine

/-- The three trigger sources of the device (R150). -/
inductive Source where
  /-- The periodic timer signal. -/
  | timer
  /-- The falling edge of the minute-button input. -/
  | minuteButton
  /-- The falling edge of the hour-button input. -/
  | hourButton
  deriving DecidableEq, Repr

/-- One pending flag per source: that a trigger arrived, not how many (R151). -/
structure Pending where
  /-- Flag of the timer source. -/
  timer : Bool
  /-- Flag of the minute-button source. -/
  minuteButton : Bool
  /-- Flag of the hour-button source. -/
  hourButton : Bool
  deriving DecidableEq, Repr

/-- No trigger is pending after RESET (R180; 10_state.md R39). -/
def pendingAtReset : Pending := ⟨false, false, false⟩

/-- The flag of a source. -/
def isPending (p : Pending) : Source → Bool
  | .timer => p.timer
  | .minuteButton => p.minuteButton
  | .hourButton => p.hourButton

/-- Write the flag of a source. -/
def setPending (p : Pending) (b : Bool) : Source → Pending
  | .timer => { p with timer := b }
  | .minuteButton => { p with minuteButton := b }
  | .hourButton => { p with hourButton := b }

/-- The event a source delivers: `on` is the level of the other button's input, sampled at
delivery (R150, R152; 30_encoding.md R73, R78). -/
def sourceEvent (on : Bool) : Source → Instr
  | .timer => .timer
  | .minuteButton => .btnm on
  | .hourButton => .btnh on

/-- What can happen at the front end. -/
inductive TriggerAct where
  /-- A trigger of the source arrives and raises its flag (R151). -/
  | arrive (src : Source)
  /-- No operation runs, this source is chosen, and the other button's level is `on` (R152). -/
  | choose (src : Source) (on : Bool)
  deriving DecidableEq, Repr

/-- One act: an arrival raises the flag; the choice of a raised flag clears it and delivers its
event; the choice of a flag that is not raised delivers nothing (R151, R152). -/
def triggerAct (p : Pending) : TriggerAct → Pending × List Instr
  | .arrive src => (setPending p true src, [])
  | .choose src on =>
    if isPending p src then (setPending p false src, [sourceEvent on src]) else (p, [])

/-- The events a schedule of acts delivers, in delivery order (R154). -/
def deliveredEvents (p : Pending) : List TriggerAct → List Instr
  | [] => []
  | a :: rest => (triggerAct p a).2 ++ deliveredEvents (triggerAct p a).1 rest

end Sys2Proof.Machine
end

