-- ==== Sys2Proof/Safety.lean ====
section
/-!
DEFINITION. The terms claims are made in: traces and their end states, the reachable-state
invariant of 10_state.md R36, and what a good state shows.
-/

namespace Sys2Proof.Machine

/-! ### Runs of operations -/

/-- The operations of a list performed one after another, up to the first fault or refusal
(20_memory.md R57). -/
def performAll : List Instr → State → Host.Outcome State Fault Refusal
  | [], s => .next s
  | i :: rest, s =>
    match exec i s with
    | .next t => performAll rest t
    | .fault r => .fault r
    | .refused r => .refused r

/-- `s` is reachable under `c`: some trace of events, applied to the state RESET leaves, ends in it
(00_scope.md R11). -/
def Reachable (c : Cfg) (s : State) : Prop :=
  ∃ is : List Instr, (∀ i ∈ is, i.wellFormed = true) ∧ performAll is (State.powerOn c) = .next s

/-! ### The reachable-state invariant -/

/-- `T[n]` over the integers, for `n` up to 11. -/
def entryAt (t : Table) (n : Nat) : Nat := (entries t).getD n 0

/-- `sum(T[j] for j < n)` (R36). -/
def spanBefore (t : Table) (n : Nat) : Nat := ((entries t).take n).sum

/-- The minute duty value at minute `m` (R36). -/
def minuteDuty (c : Cfg) (m : Nat) : Nat :=
  c.MZ.toNat + spanBefore c.MT (m / 5) + (m % 5) * (entryAt c.MT (m / 5) / 5)

/-- The hour duty value at minute `m` of hour `h` (R36). -/
def hourDuty (c : Cfg) (m h : Nat) : Nat :=
  c.HZ.toNat + spanBefore c.HT h + (m / 5) * (entryAt c.HT h / 12)

/-- `Inv(s)`, the reachable-state invariant (R36). -/
abbrev ReachInv (s : State) : Prop :=
  s.m_cntr.toNat ≤ 59 ∧ s.h_cntr.toNat ≤ 11 ∧ s.sec.toNat ≤ 59 ∧
  s.m_tick.toNat = s.m_cntr.toNat % 5 ∧ s.m_index.val = s.m_cntr.toNat / 5 ∧
  s.h_tick.toNat = s.m_cntr.toNat / 5 ∧ s.h_index.val = s.h_cntr.toNat ∧
  s.m_on.toNat = minuteDuty s.cfg s.m_cntr.toNat ∧
  s.h_on.toNat = hourDuty s.cfg s.m_cntr.toNat s.h_cntr.toNat

/-- The last pair shown is the pair the registers hold (42_pwm_output.md R142, R144). -/
abbrev ShowsItsDuty (s : State) : Prop := s.history.getLast? = some (dutyNow s)

/-- A safe state: a well-formed configuration, the reachable-state invariant, and outputs that show
the accumulators. -/
abbrev Safe (s : State) : Prop := wfCfg s.cfg = true ∧ ReachInv s ∧ ShowsItsDuty s

/-- Every pair shown so far is within the periods (10_state.md R34, `DutyFits`; R144). -/
abbrev ShowsFittingDuty (s : State) : Prop :=
  ∀ p ∈ s.history, p.m_on ≤ s.cfg.MP ∧ p.h_on ≤ s.cfg.HP

/-- A safe state under a configuration with `DutyFits` that has shown fitting pairs only. -/
abbrev SafeAndFitting (s : State) : Prop :=
  Safe s ∧ dutyFits s.cfg = true ∧ ShowsFittingDuty s

/-! ### The clamping form of the index guard -/

/-- `min(index + 1, 11)`, the other guard the source allows (40_step.md R105). -/
def clampIndex (i : TableIndex) : TableIndex := ⟨min (i.val + 1) 11, by omega⟩

/-- Sub-step 3 with the clamping guard. -/
def subStep3Clamped (s : State) : State :=
  if s.m_tick = 5 then
    { s with m_index := clampIndex s.m_index, m_tick := 0, h_tick := s.h_tick + 1,
             h_on := add16 s.h_on (hourIncrement s) }
  else s

/-- Sub-step 4 with the clamping guard. -/
def subStep4Clamped (s : State) : State :=
  if s.h_tick = 12 then { s with h_index := clampIndex s.h_index, h_tick := 0 } else s

/-- STEP with the clamping guard in the place of the modulo-12 guard (R105). It is no part of the
machine: a design to compare it with. -/
def minuteStepClamped (s : State) : State :=
  showOutputs (subStep6 (subStep5 (subStep4Clamped (subStep3Clamped
    (accumulateMinute (countMinute s))))))

/-! ### Views -/

/-- The eight core registers, R21 to R28. -/
structure CoreRegs where
  /-- R21. -/
  m_on : Word
  /-- R22. -/
  h_on : Word
  /-- R23. -/
  m_tick : BitVec 3
  /-- R24. -/
  h_tick : BitVec 4
  /-- R25. -/
  m_index : TableIndex
  /-- R26. -/
  h_index : TableIndex
  /-- R27. -/
  m_cntr : BitVec 6
  /-- R28. -/
  h_cntr : BitVec 4
  deriving DecidableEq, Repr

/-- The core registers of a state. -/
def coreRegs (s : State) : CoreRegs :=
  ⟨s.m_on, s.h_on, s.m_tick, s.h_tick, s.m_index, s.h_index, s.m_cntr, s.h_cntr⟩

/-- How many STEPs an operation performs in a state (41_dispatch.md R120 to R129). -/
def stepsIn (i : Instr) (s : State) : Nat :=
  match i with
  | .timer => if s.db = false ∧ s.sec.toNat + 1 = s.cfg.TPM.toNat then 1 else 0
  | .btnm on => if s.db = false ∧ on = true then 1 else 0
  | .btnh on => if s.db = false ∧ on = true then 60 else 0
  | .step => 1
  | .advance => 1
  | .reset => 0

/-- The state an outcome goes on with, if it does. -/
def nextState (o : Host.Outcome State Fault Refusal) : Option State :=
  match o with
  | .next s => some s
  | .fault _ => none
  | .refused _ => none

end Sys2Proof.Machine
end

