-- ==== Sys2Proof/Certificates/Slice0/Obligations.lean ====
section
/-!
DEFINITION. The statements about the model. Each docstring names the rule or the sentence of spec/
it formalises; where the spec marks that rule as its own decision (D<n>) or as derived, it says so.
Configurations are arbitrary throughout: no statement rests on the table entries that
`State.reset` carries (log 3).
-/

open Sys2Proof Sys2Proof.Machine

/-! ### Words and delivery -/

/-- The decode table of 30_encoding.md section 4, word by word (the spec's own choice D2, D4). -/
def Obligations.EventWordsDecodeAsTabulated : Prop :=
  decode 0b000 = .error (.reservedEvent 0b000) ∧ decode 0b001 = .ok (.btnm false) ∧
  decode 0b010 = .ok (.btnh false) ∧ decode 0b011 = .error (.reservedEvent 0b011) ∧
  decode 0b100 = .ok .timer ∧ decode 0b101 = .ok (.btnm true) ∧
  decode 0b110 = .ok (.btnh true) ∧ decode 0b111 = .ok .step

/-- Decode and encode agree on every event, ADVANCE and RESET have no word, and no word decodes to
them (30_encoding.md sections 4 and 5; the spec's own choice D2). -/
def Obligations.EncodedEventsDecodeBack : Prop :=
  (∀ i : Instr, i.wellFormed = true → ∃ w, encode i = some w ∧ decode w = .ok i) ∧
  (∀ i : Instr, i.wellFormed = false → encode i = none) ∧
  (∀ w i, decode w = .ok i → encode i = some w ∧ i.wellFormed = true)

/-- A step runs the decoded event: one word is consumed and its operation performed (30_encoding.md
section 1; that the trace is a list in State is the model's choice, log 1). -/
def Obligations.DeliveredWordRunsItsOperation : Prop :=
  ∀ (s : State) (w : EventWord) (rest : List EventWord) (i : Instr),
    s.events = w :: rest → decode w = .ok i →
    i.wellFormed = true ∧ step s = exec i { s with events := rest }

/-- A reserved word is refused by its name (30_encoding.md section 4; the spec's own choice D4), on
every state: that this comes before the checks of the configuration and of `WF` is the model's
choice, log 5, and that the words stand in a list is log 1. -/
def Obligations.ReservedWordsAreRefused : Prop :=
  ∀ (s : State) (w : EventWord) (rest : List EventWord),
    s.events = w :: rest → w = 0b000 ∨ w = 0b011 → step s = .refused (.reservedEvent w)

/-- With nothing delivered the block is idle and every register stands (30_encoding.md section 1,
41_dispatch.md section 6; the spec's own choice D24; log 1). -/
def Obligations.IdleKeepsEverything : Prop :=
  ∀ s : State, wfCfg s.cfg = true → wfState s = true → s.events = [] → step s = .next s

/-- 20_memory.md section 5: a run of the machine over the words of a trace is the operations of the
trace performed one after another, in trace order (that the words stand in a list is the model's
choice, log 1). -/
def Obligations.TraceRunsInDeliveryOrder : Prop :=
  ∀ (is : List Instr) (s : State), (∀ i ∈ is, i.wellFormed = true) →
    Host.Core.run Sys2Proof.core is.length (withTrace s is) = performAll is { s with events := [] }

/-- 60_exceptions.md section 3 (the spec's own choices D4, D8, D20): under a configuration outside
`WFCfg` every operation is refused, and on a state outside `WF` every operation but RESET is. -/
def Obligations.InputsTheSpecExcludesAreRefused : Prop :=
  ∀ (i : Instr) (s : State),
    (wfCfg s.cfg = false → exec i s = .refused .badConfiguration) ∧
    (wfCfg s.cfg = true → wfState s = false → i ≠ .reset → exec i s = .refused .stateOutsideWF)

/-- 40_step.md section 4, 60_exceptions.md section 3: no operation raises an exception. Every
operation completes on every `WF` state under `WFCfg` and leaves a `WF` state; none touches the
configuration or the words still to be delivered. That the words are in State is the model's choice,
log 1, and that RESET too keeps them is log 6; that ADVANCE and RESET are operations of `exec`
although no event word decodes to them is log 10. -/
def Obligations.EveryOperationCompletes : Prop :=
  ∀ (i : Instr) (s : State), wfCfg s.cfg = true → wfState s = true →
    ∃ t, exec i s = .next t ∧ wfState t = true ∧ t.cfg = s.cfg ∧ t.events = s.events

/-! ### STEP -/

/-- The result of STEP on every `WF` state, register by register, and its frame: `sec`, `db`, the
configuration and the words to come stand (40_step.md sections 1 and 2, 42_pwm_output.md; the
spec's own choices D3, D7, D15, D25). -/
def Obligations.StepEventResult : Prop :=
  ∀ s : State, wfCfg s.cfg = true → wfState s = true →
    exec .step s = .next
      (let mOn : Word :=
        if s.m_cntr = 59 then s.cfg.MZ
        else s.m_on + BitVec.ofNat 16 ((s.cfg.MT[s.m_index]).toNat / 5)
       let hOn : Word :=
        if s.m_cntr = 59 ∧ s.h_cntr = 11 then s.cfg.HZ
        else if s.m_tick = 4 then s.h_on + BitVec.ofNat 16 ((s.cfg.HT[s.h_index]).toNat / 12)
        else s.h_on
       { s with
         m_on := mOn
         h_on := hOn
         m_tick := if s.m_cntr = 59 ∨ s.m_tick = 4 then 0 else s.m_tick + 1
         h_tick :=
          if s.m_cntr = 59 then 0
          else if s.m_tick = 4 then (if s.h_tick = 11 then 0 else s.h_tick + 1)
          else s.h_tick
         m_index :=
          if s.m_cntr = 59 then 0 else if s.m_tick = 4 then s.m_index + 1 else s.m_index
         h_index :=
          if s.m_cntr = 59 ∧ s.h_cntr = 11 then 0
          else if s.m_tick = 4 ∧ s.h_tick = 11 then s.h_index + 1
          else s.h_index
         m_cntr := if s.m_cntr = 59 then 0 else s.m_cntr + 1
         h_cntr :=
          if s.m_cntr = 59 then (if s.h_cntr = 11 then 0 else s.h_cntr + 1) else s.h_cntr
         history := s.history ++ [⟨mOn, hOn⟩] })

/-- R93: sub-step 1 counts `m_tick` to 1 to 5 and `m_cntr` to 1 to 60, without wrap, and changes
nothing else. -/
def Obligations.MinuteCountersCountWithoutWrap : Prop :=
  ∀ s : State, wfState s = true →
    (countMinute s).m_tick.toNat = s.m_tick.toNat + 1 ∧
    1 ≤ (countMinute s).m_tick.toNat ∧ (countMinute s).m_tick.toNat ≤ 5 ∧
    (countMinute s).m_cntr.toNat = s.m_cntr.toNat + 1 ∧
    1 ≤ (countMinute s).m_cntr.toNat ∧ (countMinute s).m_cntr.toNat ≤ 60 ∧
    countMinute s =
      { s with m_tick := (countMinute s).m_tick, m_cntr := (countMinute s).m_cntr }

/-- R98: the hour boundary. The test is `m_cntr >= 60`; from a `WF` state it holds exactly when the
counted value is 60; the six assignments, with `h_cntr` becoming 1 to 12; `h_on`, `h_index` and all
else stand. -/
def Obligations.HourBoundaryWrapsTheMinuteSide : Prop :=
  (∀ u : State,
    (60 ≤ u.m_cntr.toNat →
      subStep5 u = { u with m_on := u.cfg.MZ, m_index := 0, m_tick := 0, m_cntr := 0,
                            h_tick := 0, h_cntr := u.h_cntr + 1 }) ∧
    (u.m_cntr.toNat < 60 → subStep5 u = u)) ∧
  (∀ s : State, wfState s = true →
    let u := subStep4 (subStep3 (accumulateMinute (countMinute s)))
    (60 ≤ u.m_cntr.toNat ↔ u.m_cntr = 60) ∧ (u.m_cntr = 60 ↔ s.m_cntr = 59) ∧
    (u.m_cntr = 60 → (subStep5 u).h_cntr.toNat = s.h_cntr.toNat + 1 ∧
      1 ≤ (subStep5 u).h_cntr.toNat ∧ (subStep5 u).h_cntr.toNat ≤ 12))

/-- R99: the half-day boundary. The test is `h_cntr >= 12`; from a `WF` state it holds exactly when
sub-step 5 has just made it 12; the three assignments; `m_index` and `m_tick` are left untouched
and are already reset by sub-step 5. -/
def Obligations.HalfDayBoundaryWrapsTheHourSide : Prop :=
  (∀ v : State,
    (12 ≤ v.h_cntr.toNat → subStep6 v = { v with h_on := v.cfg.HZ, h_index := 0, h_cntr := 0 }) ∧
    (v.h_cntr.toNat < 12 → subStep6 v = v)) ∧
  (∀ s : State, wfState s = true →
    let u := subStep4 (subStep3 (accumulateMinute (countMinute s)))
    let v := subStep5 u
    (12 ≤ v.h_cntr.toNat ↔ 60 ≤ u.m_cntr.toNat ∧ v.h_cntr = 12) ∧
    (12 ≤ v.h_cntr.toNat → u.h_cntr = 11 ∧ v.m_index = 0 ∧ v.m_tick = 0))

/-- 40_step.md section 3 (derived in the spec): the four cases of STEP on a state of the invariant.
No addition wraps: the duty values are sums over the integers. In every case `sec`, `db` and the
configuration keep their values. -/
def Obligations.StepInFourCases : Prop :=
  ∀ s : State, wfCfg s.cfg = true → ReachInv s →
    let m := s.m_cntr.toNat
    let h := s.h_cntr.toNat
    ∃ t, exec .step s = .next t ∧ ReachInv t ∧ t.sec = s.sec ∧ t.db = s.db ∧ t.cfg = s.cfg ∧
      (m % 5 ≠ 4 →
        t.m_cntr.toNat = m + 1 ∧ t.m_tick.toNat = s.m_tick.toNat + 1 ∧
        t.m_on.toNat = s.m_on.toNat + entryAt s.cfg.MT (m / 5) / 5 ∧
        t.h_on = s.h_on ∧ t.h_tick = s.h_tick ∧ t.m_index = s.m_index ∧
        t.h_index = s.h_index ∧ t.h_cntr = s.h_cntr) ∧
      (m % 5 = 4 → m ≠ 59 →
        t.m_cntr.toNat = m + 1 ∧ t.m_tick = 0 ∧ t.m_index.val = s.m_index.val + 1 ∧
        t.h_tick.toNat = s.h_tick.toNat + 1 ∧
        t.m_on.toNat = s.m_on.toNat + entryAt s.cfg.MT (m / 5) / 5 ∧
        t.h_on.toNat = s.h_on.toNat + entryAt s.cfg.HT h / 12 ∧
        t.h_index = s.h_index ∧ t.h_cntr = s.h_cntr) ∧
      (m = 59 → h ≠ 11 →
        t.m_cntr = 0 ∧ t.m_tick = 0 ∧ t.m_index = 0 ∧ t.h_tick = 0 ∧ t.m_on = s.cfg.MZ ∧
        t.h_on.toNat = s.h_on.toNat + entryAt s.cfg.HT h / 12 ∧
        t.h_index.val = h + 1 ∧ t.h_cntr.toNat = h + 1) ∧
      (m = 59 → h = 11 → coreRegs t = coreRegs (State.powerOn s.cfg))

/-- 40_step.md section 7 (derived; D7): on a state of the invariant the clamping form of the index
increments ends the STEP in the same state as the modulo-12 form. -/
def Obligations.ClampedIndexGuardAgrees : Prop :=
  ∀ s : State, wfCfg s.cfg = true → ReachInv s → exec .step s = .next (minuteStepClamped s)

/-- R107, the worked example: from the reset state, under any well-formed configuration with the
documented offsets and first entries, one STEP and then four more. (The history is left out of
"all else unchanged": it is the record of the outputs, 42_pwm_output.md.) -/
def Obligations.WorkedExampleOfTheScenario : Prop :=
  ∀ c : Cfg, wfCfg c = true → c.MZ = 5 → c.HZ = 5 → c.MT[0] = 640 → c.HT[0] = 744 →
    ∃ t u, performAll [.step] (State.powerOn c) = .next t ∧
      performAll [.step, .step, .step, .step] t = .next u ∧
      t = { State.powerOn c with
              m_on := 133, m_tick := 1, m_cntr := 1, history := t.history } ∧
      u.m_on = 645 ∧ u.m_tick = 0 ∧ u.m_index = 1 ∧ u.m_cntr = 5 ∧ u.h_tick = 1 ∧
      u.h_on = 67 ∧ u.h_index = 0 ∧ u.h_cntr = 0

/-! ### The dispatcher -/

/-- R120: ADVANCE is STEP and then `sec <- 0`; it writes no flag, raises nothing and has no event
word. -/
def Obligations.AdvanceStepsThenClearsSeconds : Prop :=
  encode .advance = none ∧
  ∀ s : State, wfCfg s.cfg = true → wfState s = true →
    ∃ t, exec .step s = .next t ∧ t.db = s.db ∧ exec .advance s = .next { t with sec := 0 }

/-- TIMER (41_dispatch.md section 2; the spec's own choice D12 for the first case): it ends the
window, or counts a second, or on the sixtieth runs one STEP and clears `sec`. -/
def Obligations.TimerEventResult : Prop :=
  ∀ s : State, wfCfg s.cfg = true → wfState s = true →
    (s.db = true → exec .timer s = .next { s with db := false }) ∧
    (s.db = false → s.sec ≠ 59 → exec .timer s = .next { s with sec := s.sec + 1 }) ∧
    (s.db = false → s.sec = 59 →
      ∃ t, exec .step s = .next t ∧ exec .timer s = .next { t with sec := 0 })

/-- R124: BTNM, its two words, its effect when it acts, and that it changes nothing otherwise. -/
def Obligations.MinuteButtonEventResult : Prop :=
  decode 5 = .ok (.btnm true) ∧ decode 1 = .ok (.btnm false) ∧
  ∀ (s : State) (on : Bool), wfCfg s.cfg = true → wfState s = true →
    (s.db = false → on = true →
      ∃ t, exec .step { s with sec := 0 } = .next t ∧
        exec (.btnm on) s = .next { t with db := true }) ∧
    (¬(s.db = false ∧ on = true) → exec (.btnm on) s = .next s)

/-- R126: BTNH, its two words, its 60 STEPs and `db <- 1` when it acts, `sec` neither written nor
read, and that it changes nothing otherwise. -/
def Obligations.HourButtonEventResult : Prop :=
  decode 6 = .ok (.btnh true) ∧ decode 2 = .ok (.btnh false) ∧
  ∀ (s : State) (on : Bool), wfCfg s.cfg = true → wfState s = true →
    (s.db = false → on = true →
      ∃ t, performAll (List.replicate 60 .step) s = .next t ∧ t.sec = s.sec ∧
        exec (.btnh on) s = .next { t with db := true } ∧
        ∀ x : BitVec 6, x.toNat ≤ 59 →
          exec (.btnh on) { s with sec := x } = .next { t with sec := x, db := true }) ∧
    (¬(s.db = false ∧ on = true) → exec (.btnh on) s = .next s)

/-- 20_memory.md section 5, 60_exceptions.md section 2: each event is one delivery. One step of the
machine takes one word and performs the 60 STEPs of a burst, the count and ADVANCE of a TIMER, or
the three parts of a BTNM, with the words that follow still to be delivered (that they stand in a
list is the model's choice, log 1). -/
def Obligations.EachEventIsOneCriticalSection : Prop :=
  ∀ (s : State) (rest : List EventWord), wfCfg s.cfg = true → wfState s = true → s.db = false →
    (s.events = 6 :: rest →
      ∃ t, performAll (List.replicate 60 .step) { s with events := rest } = .next t ∧
        t.events = rest ∧ step s = .next { t with db := true }) ∧
    (s.events = 5 :: rest →
      ∃ t, exec .step { s with sec := 0, events := rest } = .next t ∧ t.events = rest ∧
        step s = .next { t with db := true }) ∧
    (s.events = 4 :: rest → s.sec = 59 →
      ∃ t, exec .step { s with events := rest } = .next t ∧ t.events = rest ∧
        step s = .next { t with sec := 0 })

/-- 41_dispatch.md section 4 (derived in the spec from its R101 and R36): on a state of the
invariant the burst moves the hour by one and brings the minute side back to itself. -/
def Obligations.BurstMovesExactlyOneHour : Prop :=
  ∀ s : State, wfCfg s.cfg = true → ReachInv s → s.db = false →
    ∃ t, exec (.btnh true) s = .next t ∧
      t.m_cntr = s.m_cntr ∧ t.h_cntr.toNat = (s.h_cntr.toNat + 1) % 12 ∧
      t.m_on = s.m_on ∧ t.m_tick = s.m_tick ∧ t.m_index = s.m_index ∧ t.h_tick = s.h_tick ∧
      t.h_index.val = (s.h_cntr.toNat + 1) % 12 ∧
      t.h_on.toNat = hourDuty s.cfg s.m_cntr.toNat ((s.h_cntr.toNat + 1) % 12) ∧
      t.sec = s.sec ∧ t.db = true ∧ t.cfg = s.cfg ∧ t.events = s.events

/-- 41_dispatch.md section 5 and the source's P7 (the spec's own choice D11): once a press has
acted, every further press before the next timer signal changes nothing. -/
def Obligations.PressesInsideTheWindowAreDropped : Prop :=
  ∀ (s t : State) (first : Instr) (presses : List Instr),
    s.db = false → first = .btnm true ∨ first = .btnh true →
    (∀ i ∈ presses, ∃ on, i = .btnm on ∨ i = .btnh on) →
    exec first s = .next t → performAll presses t = .next t

/-- 41_dispatch.md section 5 (the spec's own choice D13): a press while the other button is pressed
changes nothing, `db` included. -/
def Obligations.SimultaneousPressIsNoOp : Prop :=
  ∀ s : State, wfCfg s.cfg = true → wfState s = true →
    exec (.btnm false) s = .next s ∧ exec (.btnh false) s = .next s

/-- 41_dispatch.md sections 2 and 7: with the window closed, the ticks left of the minute perform
one STEP, at the last of them, and leave `sec` at 0; each tick before the last only counts `sec`. -/
def Obligations.TicksOfAMinuteStepOnce : Prop :=
  ∀ s : State, wfCfg s.cfg = true → wfState s = true → s.db = false →
    (∀ k < 60 - s.sec.toNat,
      performAll (ticks k) s = .next { s with sec := s.sec + BitVec.ofNat 6 k }) ∧
    ∃ t, exec .step s = .next t ∧
      performAll (ticks (60 - s.sec.toNat)) s = .next { t with sec := 0 }

/-- 60_exceptions.md section 2: a timer signal and a press admit both orders, and they differ. The
STEP and `sec` come out the same; the window is open after one order, closed after the other. -/
def Obligations.TimerAndPressOrdersDiffer : Prop :=
  ∀ s : State, wfCfg s.cfg = true → wfState s = true → s.db = false → s.sec ≠ 59 →
    ∃ t u, performAll [.timer, .btnm true] s = .next t ∧
      performAll [.btnm true, .timer] s = .next u ∧
      t.db = true ∧ u.db = false ∧ t = { u with db := true }

/-- 41_dispatch.md section 7 (derived in the spec): twelve acting hour presses, each followed by a
TIMER, return the core state to where it was and leave `sec` alone. -/
def Obligations.TwelveHourPressesReturn : Prop :=
  ∀ s : State, wfCfg s.cfg = true → ReachInv s → s.db = false →
    ∃ t, performAll (repTrace 12 [.btnh true, .timer]) s = .next t ∧
      coreRegs t = coreRegs s ∧ t.sec = s.sec ∧ t.db = false

/-! ### Reset and invariants -/

/-- RESET writes every register with its reset value, whatever they held, and keeps the
configuration (10_state.md section 8, 70_reset_and_hazards.md section 1; `db` by the spec's own
choice D10). That the output history begins anew and the undelivered words stand is the model's
choice, log 6. -/
def Obligations.ResetWritesEveryRegister : Prop :=
  ∀ s : State, wfCfg s.cfg = true →
    exec .reset s = .next
      { sec := 0, m_on := s.cfg.MZ, h_on := s.cfg.HZ, m_tick := 0, h_tick := 0, m_index := 0,
        h_index := 0, m_cntr := 0, h_cntr := 0, db := false, cfg := s.cfg,
        history := [⟨s.cfg.MZ, s.cfg.HZ⟩], events := s.events }

/-- The reset state is safe under every well-formed configuration, and so is `State.reset`, whose
open table entries are the model's choice, log 3 (10_state.md section 6). -/
def Obligations.ResetStateIsSafe : Prop :=
  (∀ c : Cfg, wfCfg c = true → Safe (State.powerOn c)) ∧ Safe State.reset

/-- Every step of the machine, and every operation performed by itself, keeps the reachable-state
invariant (10_state.md section 6, derived in the spec) and keeps the outputs shown (42_pwm_output.md;
the spec's own choice D15; the history is the model's record, log 7, which the operation RESET begins
anew, log 6). -/
def Obligations.EveryStepKeepsSafe : Prop :=
  (∀ s t : State, Safe s → step s = .next t → Safe t) ∧
  (∀ (i : Instr) (s t : State), Safe s → exec i s = .next t → Safe t)

/-- 10_state.md sections 6 and 8: every state some trace reaches from reset, under any well-formed
configuration, is safe and carries that configuration. That a safe state shows the pair it holds is
42_pwm_output.md (the spec's own choice D15; the history is log 7). -/
def Obligations.EveryReachableStateIsSafe : Prop :=
  ∀ (c : Cfg) (s : State), wfCfg c = true → Reachable c s → Safe s ∧ s.cfg = c

/-- 10_state.md section 5: no step writes the configuration. -/
def Obligations.ConfigurationIsNeverWritten : Prop :=
  ∀ s t : State, step s = .next t → t.cfg = s.cfg

/-- 10_state.md section 6 (derived in the spec): the core state is a function of the pair
`(m_cntr, h_cntr)`, and each of the 720 pairs is reached from reset by STEPs. -/
def Obligations.CoreStatesAreTheMinutesOfTheDial : Prop :=
  (∀ s t : State, ReachInv s → ReachInv t → s.cfg = t.cfg → s.m_cntr = t.m_cntr → s.h_cntr = t.h_cntr →
    coreRegs s = coreRegs t) ∧
  (∀ (c : Cfg) (m h : Nat), wfCfg c = true → m ≤ 59 → h ≤ 11 →
    ∃ t, performAll (List.replicate (60 * h + m) .step) (State.powerOn c) = .next t ∧
      t.m_cntr.toNat = m ∧ t.h_cntr.toNat = h)

/-- 10_state.md section 6 (derived in the spec): 720 STEPs return the core state, from every state
of the invariant. -/
def Obligations.CoreHasPeriod720 : Prop :=
  ∀ s : State, wfCfg s.cfg = true → ReachInv s →
    ∃ t, performAll (List.replicate 720 .step) s = .next t ∧ coreRegs t = coreRegs s ∧
      t.sec = s.sec ∧ t.db = s.db

/-- The source's P1 and P4 (40_step.md section 6, derived in the spec): 60 STEPs from reset leave
the minute side reset, 720 the hour side too. -/
def Obligations.WrapsFromReset : Prop :=
  ∀ c : Cfg, wfCfg c = true →
    (∃ t, performAll (List.replicate 60 .step) (State.powerOn c) = .next t ∧
      t.m_on = c.MZ ∧ t.m_index = 0 ∧ t.m_tick = 0 ∧ t.m_cntr = 0) ∧
    (∃ t, performAll (List.replicate 720 .step) (State.powerOn c) = .next t ∧
      t.h_on = c.HZ ∧ t.h_cntr = 0)

/-- The source's P2 (40_step.md section 6, derived in the spec): the minute increments of the first
60 STEPs add up to the sum of `MT`; the sixtieth, discarded by the wrap, is `MT[11] div 5`. -/
def Obligations.MinuteIncrementsSumToTheTable : Prop :=
  ∀ c : Cfg, wfCfg c = true →
    ∃ t, performAll (List.replicate 59 .step) (State.powerOn c) = .next t ∧
      t.m_on.toNat + (c.MT[11]).toNat / 5 = c.MZ.toNat + tableSum c.MT

/-- 10_state.md section 1 and section 6 (derived in the spec): the floors of the accumulators, their
largest values between operations, and where those are reached. -/
def Obligations.DutyValuesKeepTheirBounds : Prop :=
  ∀ s : State, wfCfg s.cfg = true → ReachInv s →
    s.cfg.MZ ≤ s.m_on ∧ s.cfg.HZ ≤ s.h_on ∧
    s.m_on.toNat ≤ s.cfg.MZ.toNat + tableSum s.cfg.MT - entryAt s.cfg.MT 11 / 5 ∧
    s.h_on.toNat ≤ s.cfg.HZ.toNat + tableSum s.cfg.HT - entryAt s.cfg.HT 11 / 12 ∧
    (s.m_cntr = 59 →
      s.m_on.toNat = s.cfg.MZ.toNat + tableSum s.cfg.MT - entryAt s.cfg.MT 11 / 5) ∧
    (s.h_cntr = 11 → 55 ≤ s.m_cntr.toNat →
      s.h_on.toNat = s.cfg.HZ.toNat + tableSum s.cfg.HT - entryAt s.cfg.HT 11 / 12)

/-- 10_state.md section 6 (derived in the spec): `m_on` does not decrease within an hour, `h_on` not
within a 12-hour cycle. -/
def Obligations.DutyValuesAreMonotone : Prop :=
  ∀ s t : State, ReachInv s → exec .step s = .next t →
    (s.m_cntr ≠ 59 → s.m_on ≤ t.m_on) ∧ (¬(s.m_cntr = 59 ∧ s.h_cntr = 11) → s.h_on ≤ t.h_on)

/-! ### Outputs -/

/-- R140: each channel presents the pair of its constant period and its accumulator; no step changes
a period; the documented periods are 10000. -/
def Obligations.ChannelsPresentPeriodAndDuty : Prop :=
  (∀ s : State, pwmMinute s = ⟨s.cfg.MP, s.m_on⟩ ∧ pwmHour s = ⟨s.cfg.HP, s.h_on⟩) ∧
  (∀ s t : State, step s = .next t →
    (pwmMinute t).period = (pwmMinute s).period ∧ (pwmHour t).period = (pwmHour s).period) ∧
  (pwmMinute State.reset).period = 10000 ∧ (pwmHour State.reset).period = 10000

/-- 42_pwm_output.md (the spec's own choice D15): an operation shows exactly one new pair for each
STEP it performs, the last one the pair it ends with; an operation without a STEP changes neither
the history nor the outputs. -/
def Obligations.OutputsChangeOnlyBySteps : Prop :=
  ∀ (i : Instr) (s : State), wfCfg s.cfg = true → wfState s = true → i ≠ .reset →
    ∃ t new, exec i s = .next t ∧ t.history = s.history ++ new ∧ new.length = stepsIn i s ∧
      (new = [] → dutyNow t = dutyNow s) ∧ (new ≠ [] → new.getLast? = some (dutyNow t))

/-- 20_memory.md section 5, 70_reset_and_hazards.md section 3 (the spec's own choice D15): the burst
shows each of its 60 intermediate pairs, in order, and none of the values inside a STEP. -/
def Obligations.BurstShowsSixtyPairs : Prop :=
  ∀ s : State, wfCfg s.cfg = true → wfState s = true → s.db = false →
    ∃ (t : State) (states : List State), exec (.btnh true) s = .next t ∧ states.length = 60 ∧
      (∀ k < 60, ∃ u, states[k]? = some u ∧
        performAll (List.replicate (k + 1) .step) s = .next u) ∧
      t.history = s.history ++ states.map dutyNow

/-- 42_pwm_output.md and 10_state.md section 5 (`DutyFits`, the spec's own choice D16): where it
holds, no pair shown to a meter exceeds its period, on every reachable state. -/
def Obligations.DutyFitsItsPeriod : Prop :=
  ∀ (c : Cfg) (s : State), wfCfg c = true → dutyFits c = true → Reachable c s →
    (pwmMinute s).onDuration ≤ (pwmMinute s).period ∧
    (pwmHour s).onDuration ≤ (pwmHour s).period ∧
    ∀ p ∈ s.history, p.m_on ≤ c.MP ∧ p.h_on ≤ c.HP

/-- 42_pwm_output.md and 10_state.md section 5 (`DutyFits`, the spec's own choice D16): on safe
states whose configuration has it and whose recorded pairs are within their periods, every step of
the machine, and every operation performed by itself, keeps all three; the reset state meets them.
The history is the spec's D15 and log 7; that the operation RESET begins it anew is log 6. -/
def Obligations.EveryStepKeepsDutyFitting : Prop :=
  (∀ s t : State, SafeAndFitting s → step s = .next t → SafeAndFitting t) ∧
  (∀ (i : Instr) (s t : State), SafeAndFitting s → exec i s = .next t → SafeAndFitting t) ∧
  (∀ c : Cfg, wfCfg c = true → dutyFits c = true → SafeAndFitting (State.powerOn c))

/-- 42_pwm_output.md (the spec's own choice D21) and R29's account of `db`: `tmr_fast` is raised by
an acting press, lowered by the next TIMER, and changed by nothing else but RESET. -/
def Obligations.TimerIntervalFollowsTheWindow : Prop :=
  ∀ (i : Instr) (s t : State), exec i s = .next t →
    (tmrFast s = false → tmrFast t = true → i = .btnm true ∨ i = .btnh true) ∧
    (tmrFast s = true → tmrFast t = false → i = .timer ∨ i = .reset) ∧
    (i = .timer → tmrFast t = false) ∧ (i = .btnm true ∨ i = .btnh true → tmrFast t = true)

/-! ### Who reads and writes what -/

/-- 20_memory.md section 2: only STEP reads a table, and only `MT[m_index]`, and `HT[h_index]` when
the minute sub-tick carries. Two states that differ in the rest of their tables give results that
differ in nothing else; an operation without a STEP reads no entry at all. -/
def Obligations.OnlyStepReadsTheTables : Prop :=
  (∀ (s : State) (mt ht : Table),
    wfCfg s.cfg = true → wfCfg { s.cfg with MT := mt, HT := ht } = true → wfState s = true →
    mt[s.m_index] = s.cfg.MT[s.m_index] → (s.m_tick = 4 → ht[s.h_index] = s.cfg.HT[s.h_index]) →
    ∃ t, exec .step s = .next t ∧
      exec .step { s with cfg := { s.cfg with MT := mt, HT := ht } } =
        .next { t with cfg := { s.cfg with MT := mt, HT := ht } }) ∧
  (∀ (i : Instr) (s : State) (mt ht : Table),
    wfCfg s.cfg = true → wfCfg { s.cfg with MT := mt, HT := ht } = true → wfState s = true →
    stepsIn i s = 0 →
    ∃ t, exec i s = .next t ∧
      exec i { s with cfg := { s.cfg with MT := mt, HT := ht } } =
        .next { t with cfg := { s.cfg with MT := mt, HT := ht } })

/-- 40_step.md section 1: STEP neither reads nor writes `sec` and `db`. -/
def Obligations.StepIgnoresTheDispatcherState : Prop :=
  ∀ (s : State) (sec : BitVec 6) (db : Bool),
    wfCfg s.cfg = true → wfState s = true → sec.toNat ≤ 59 →
    ∃ t, exec .step s = .next t ∧ t.sec = s.sec ∧ t.db = s.db ∧
      exec .step { s with sec := sec, db := db } = .next { t with sec := sec, db := db }

/-- 10_state.md section 3, the access table, as frames: what each operation leaves unchanged when it
goes on. Nothing but STEP, alone or called, writes a core register or the history; STEP and BTNH
leave `sec`; STEP and ADVANCE leave `db`. Nothing but RESET shortens the history (42_pwm_output.md;
the spec's own choice D15; log 7, and log 6 for RESET); none writes the configuration (10_state.md
section 5) or the words still to be delivered (log 1, and log 6 for RESET); that ADVANCE and RESET
are operations of `exec` is log 10. -/
def Obligations.AccessRightsOfTheOperations : Prop :=
  ∀ (i : Instr) (s t : State), exec i s = .next t →
    (i ≠ .reset → stepsIn i s = 0 → coreRegs t = coreRegs s ∧ t.history = s.history) ∧
    (i = .step ∨ (∃ on, i = .btnh on) → t.sec = s.sec) ∧
    (i = .step ∨ i = .advance → t.db = s.db) ∧
    (i ≠ .reset → s.history <+: t.history) ∧
    t.cfg = s.cfg ∧ t.events = s.events

/-! ### The trigger front end -/

/-- 60_exceptions.md sections 1 and 2: a second trigger of a source before the delivery of the first
adds nothing, and one that arrives after the delivery makes an event of its own. The delivery clears
the flag, so a choice of the source with no new trigger delivers nothing: the spec chooses raised
flags only, and that convention of the front end is the model's, log 8. -/
def Obligations.PendingFlagHoldsOneTrigger : Prop :=
  ∀ (p : Pending) (src : Source) (on : Bool) (rest : List TriggerAct),
    deliveredEvents p (.arrive src :: .arrive src :: rest) =
      deliveredEvents p (.arrive src :: rest) ∧
    (∀ on' : Bool, deliveredEvents p
      (.arrive src :: .choose src on :: .arrive src :: .choose src on' :: rest) =
        sourceEvent on src :: sourceEvent on' src ::
          deliveredEvents (setPending p false src) rest) ∧
    deliveredEvents p (.arrive src :: .choose src on :: .choose src on :: rest) =
      sourceEvent on src :: deliveredEvents (setPending p false src) rest

/-- 60_exceptions.md section 2 (the spec's own choice D14): every trace of the source alphabet is
what some schedule of triggers delivers from power-on, and a schedule delivers nothing else. -/
def Obligations.EveryDeviceTraceHasASchedule : Prop :=
  (∀ is : List Instr, (∀ i ∈ is, i.fromDevice = true) →
    ∃ acts, deliveredEvents pendingAtReset acts = is) ∧
  (∀ (p : Pending) (acts : List TriggerAct), ∀ i ∈ deliveredEvents p acts, i.fromDevice = true)

/-- 60_exceptions.md section 2 (the spec's own choice D14): with several flags raised, any one of
them may be delivered next, and the others stay raised. -/
def Obligations.AnyPendingSourceMayBeChosen : Prop :=
  ∀ (p : Pending) (src : Source) (on : Bool), isPending p src = true →
    ∃ q, triggerAct p (.choose src on) = (q, [sourceEvent on src]) ∧ isPending q src = false ∧
      ∀ other, other ≠ src → isPending q other = isPending p other
end

