-- ==== Sys2Proof/Laws/State.lean ====
section
/-!
SUPPORT. Each named register update, read at each field of State: what it writes and that the rest
stands. All hold by definition.
-/

namespace Sys2Proof.Machine

variable (s : State) (w : EventWord)

/-! ### countMinute -/

@[simp] theorem countMinute_sec : (countMinute s).sec = s.sec := rfl
@[simp] theorem countMinute_m_on : (countMinute s).m_on = s.m_on := rfl
@[simp] theorem countMinute_h_on : (countMinute s).h_on = s.h_on := rfl
@[simp] theorem countMinute_m_tick : (countMinute s).m_tick = s.m_tick + 1 := rfl
@[simp] theorem countMinute_h_tick : (countMinute s).h_tick = s.h_tick := rfl
@[simp] theorem countMinute_m_index : (countMinute s).m_index = s.m_index := rfl
@[simp] theorem countMinute_h_index : (countMinute s).h_index = s.h_index := rfl
@[simp] theorem countMinute_m_cntr : (countMinute s).m_cntr = s.m_cntr + 1 := rfl
@[simp] theorem countMinute_h_cntr : (countMinute s).h_cntr = s.h_cntr := rfl
@[simp] theorem countMinute_db : (countMinute s).db = s.db := rfl
@[simp] theorem countMinute_cfg : (countMinute s).cfg = s.cfg := rfl
@[simp] theorem countMinute_history : (countMinute s).history = s.history := rfl
@[simp] theorem countMinute_events : (countMinute s).events = s.events := rfl

/-! ### accumulateMinute -/

@[simp] theorem accumulateMinute_sec : (accumulateMinute s).sec = s.sec := rfl
@[simp] theorem accumulateMinute_m_on : (accumulateMinute s).m_on = add16 s.m_on (minuteIncrement s) := rfl
@[simp] theorem accumulateMinute_h_on : (accumulateMinute s).h_on = s.h_on := rfl
@[simp] theorem accumulateMinute_m_tick : (accumulateMinute s).m_tick = s.m_tick := rfl
@[simp] theorem accumulateMinute_h_tick : (accumulateMinute s).h_tick = s.h_tick := rfl
@[simp] theorem accumulateMinute_m_index : (accumulateMinute s).m_index = s.m_index := rfl
@[simp] theorem accumulateMinute_h_index : (accumulateMinute s).h_index = s.h_index := rfl
@[simp] theorem accumulateMinute_m_cntr : (accumulateMinute s).m_cntr = s.m_cntr := rfl
@[simp] theorem accumulateMinute_h_cntr : (accumulateMinute s).h_cntr = s.h_cntr := rfl
@[simp] theorem accumulateMinute_db : (accumulateMinute s).db = s.db := rfl
@[simp] theorem accumulateMinute_cfg : (accumulateMinute s).cfg = s.cfg := rfl
@[simp] theorem accumulateMinute_history : (accumulateMinute s).history = s.history := rfl
@[simp] theorem accumulateMinute_events : (accumulateMinute s).events = s.events := rfl

/-! ### advanceMinuteIndex -/

@[simp] theorem advanceMinuteIndex_sec : (advanceMinuteIndex s).sec = s.sec := rfl
@[simp] theorem advanceMinuteIndex_m_on : (advanceMinuteIndex s).m_on = s.m_on := rfl
@[simp] theorem advanceMinuteIndex_h_on : (advanceMinuteIndex s).h_on = s.h_on := rfl
@[simp] theorem advanceMinuteIndex_m_tick : (advanceMinuteIndex s).m_tick = s.m_tick := rfl
@[simp] theorem advanceMinuteIndex_h_tick : (advanceMinuteIndex s).h_tick = s.h_tick := rfl
@[simp] theorem advanceMinuteIndex_m_index : (advanceMinuteIndex s).m_index = nextIndex s.m_index := rfl
@[simp] theorem advanceMinuteIndex_h_index : (advanceMinuteIndex s).h_index = s.h_index := rfl
@[simp] theorem advanceMinuteIndex_m_cntr : (advanceMinuteIndex s).m_cntr = s.m_cntr := rfl
@[simp] theorem advanceMinuteIndex_h_cntr : (advanceMinuteIndex s).h_cntr = s.h_cntr := rfl
@[simp] theorem advanceMinuteIndex_db : (advanceMinuteIndex s).db = s.db := rfl
@[simp] theorem advanceMinuteIndex_cfg : (advanceMinuteIndex s).cfg = s.cfg := rfl
@[simp] theorem advanceMinuteIndex_history : (advanceMinuteIndex s).history = s.history := rfl
@[simp] theorem advanceMinuteIndex_events : (advanceMinuteIndex s).events = s.events := rfl

/-! ### carryIntoHourTick -/

@[simp] theorem carryIntoHourTick_sec : (carryIntoHourTick s).sec = s.sec := rfl
@[simp] theorem carryIntoHourTick_m_on : (carryIntoHourTick s).m_on = s.m_on := rfl
@[simp] theorem carryIntoHourTick_h_on : (carryIntoHourTick s).h_on = s.h_on := rfl
@[simp] theorem carryIntoHourTick_m_tick : (carryIntoHourTick s).m_tick = 0 := rfl
@[simp] theorem carryIntoHourTick_h_tick : (carryIntoHourTick s).h_tick = s.h_tick + 1 := rfl
@[simp] theorem carryIntoHourTick_m_index : (carryIntoHourTick s).m_index = s.m_index := rfl
@[simp] theorem carryIntoHourTick_h_index : (carryIntoHourTick s).h_index = s.h_index := rfl
@[simp] theorem carryIntoHourTick_m_cntr : (carryIntoHourTick s).m_cntr = s.m_cntr := rfl
@[simp] theorem carryIntoHourTick_h_cntr : (carryIntoHourTick s).h_cntr = s.h_cntr := rfl
@[simp] theorem carryIntoHourTick_db : (carryIntoHourTick s).db = s.db := rfl
@[simp] theorem carryIntoHourTick_cfg : (carryIntoHourTick s).cfg = s.cfg := rfl
@[simp] theorem carryIntoHourTick_history : (carryIntoHourTick s).history = s.history := rfl
@[simp] theorem carryIntoHourTick_events : (carryIntoHourTick s).events = s.events := rfl

/-! ### accumulateHour -/

@[simp] theorem accumulateHour_sec : (accumulateHour s).sec = s.sec := rfl
@[simp] theorem accumulateHour_m_on : (accumulateHour s).m_on = s.m_on := rfl
@[simp] theorem accumulateHour_h_on : (accumulateHour s).h_on = add16 s.h_on (hourIncrement s) := rfl
@[simp] theorem accumulateHour_m_tick : (accumulateHour s).m_tick = s.m_tick := rfl
@[simp] theorem accumulateHour_h_tick : (accumulateHour s).h_tick = s.h_tick := rfl
@[simp] theorem accumulateHour_m_index : (accumulateHour s).m_index = s.m_index := rfl
@[simp] theorem accumulateHour_h_index : (accumulateHour s).h_index = s.h_index := rfl
@[simp] theorem accumulateHour_m_cntr : (accumulateHour s).m_cntr = s.m_cntr := rfl
@[simp] theorem accumulateHour_h_cntr : (accumulateHour s).h_cntr = s.h_cntr := rfl
@[simp] theorem accumulateHour_db : (accumulateHour s).db = s.db := rfl
@[simp] theorem accumulateHour_cfg : (accumulateHour s).cfg = s.cfg := rfl
@[simp] theorem accumulateHour_history : (accumulateHour s).history = s.history := rfl
@[simp] theorem accumulateHour_events : (accumulateHour s).events = s.events := rfl

/-! ### carryIntoHourIndex -/

@[simp] theorem carryIntoHourIndex_sec : (carryIntoHourIndex s).sec = s.sec := rfl
@[simp] theorem carryIntoHourIndex_m_on : (carryIntoHourIndex s).m_on = s.m_on := rfl
@[simp] theorem carryIntoHourIndex_h_on : (carryIntoHourIndex s).h_on = s.h_on := rfl
@[simp] theorem carryIntoHourIndex_m_tick : (carryIntoHourIndex s).m_tick = s.m_tick := rfl
@[simp] theorem carryIntoHourIndex_h_tick : (carryIntoHourIndex s).h_tick = 0 := rfl
@[simp] theorem carryIntoHourIndex_m_index : (carryIntoHourIndex s).m_index = s.m_index := rfl
@[simp] theorem carryIntoHourIndex_h_index : (carryIntoHourIndex s).h_index = nextIndex s.h_index := rfl
@[simp] theorem carryIntoHourIndex_m_cntr : (carryIntoHourIndex s).m_cntr = s.m_cntr := rfl
@[simp] theorem carryIntoHourIndex_h_cntr : (carryIntoHourIndex s).h_cntr = s.h_cntr := rfl
@[simp] theorem carryIntoHourIndex_db : (carryIntoHourIndex s).db = s.db := rfl
@[simp] theorem carryIntoHourIndex_cfg : (carryIntoHourIndex s).cfg = s.cfg := rfl
@[simp] theorem carryIntoHourIndex_history : (carryIntoHourIndex s).history = s.history := rfl
@[simp] theorem carryIntoHourIndex_events : (carryIntoHourIndex s).events = s.events := rfl

/-! ### wrapMinuteSide -/

@[simp] theorem wrapMinuteSide_sec : (wrapMinuteSide s).sec = s.sec := rfl
@[simp] theorem wrapMinuteSide_m_on : (wrapMinuteSide s).m_on = s.cfg.MZ := rfl
@[simp] theorem wrapMinuteSide_h_on : (wrapMinuteSide s).h_on = s.h_on := rfl
@[simp] theorem wrapMinuteSide_m_tick : (wrapMinuteSide s).m_tick = 0 := rfl
@[simp] theorem wrapMinuteSide_h_tick : (wrapMinuteSide s).h_tick = 0 := rfl
@[simp] theorem wrapMinuteSide_m_index : (wrapMinuteSide s).m_index = 0 := rfl
@[simp] theorem wrapMinuteSide_h_index : (wrapMinuteSide s).h_index = s.h_index := rfl
@[simp] theorem wrapMinuteSide_m_cntr : (wrapMinuteSide s).m_cntr = 0 := rfl
@[simp] theorem wrapMinuteSide_h_cntr : (wrapMinuteSide s).h_cntr = s.h_cntr + 1 := rfl
@[simp] theorem wrapMinuteSide_db : (wrapMinuteSide s).db = s.db := rfl
@[simp] theorem wrapMinuteSide_cfg : (wrapMinuteSide s).cfg = s.cfg := rfl
@[simp] theorem wrapMinuteSide_history : (wrapMinuteSide s).history = s.history := rfl
@[simp] theorem wrapMinuteSide_events : (wrapMinuteSide s).events = s.events := rfl

/-! ### wrapHourSide -/

@[simp] theorem wrapHourSide_sec : (wrapHourSide s).sec = s.sec := rfl
@[simp] theorem wrapHourSide_m_on : (wrapHourSide s).m_on = s.m_on := rfl
@[simp] theorem wrapHourSide_h_on : (wrapHourSide s).h_on = s.cfg.HZ := rfl
@[simp] theorem wrapHourSide_m_tick : (wrapHourSide s).m_tick = s.m_tick := rfl
@[simp] theorem wrapHourSide_h_tick : (wrapHourSide s).h_tick = s.h_tick := rfl
@[simp] theorem wrapHourSide_m_index : (wrapHourSide s).m_index = s.m_index := rfl
@[simp] theorem wrapHourSide_h_index : (wrapHourSide s).h_index = 0 := rfl
@[simp] theorem wrapHourSide_m_cntr : (wrapHourSide s).m_cntr = s.m_cntr := rfl
@[simp] theorem wrapHourSide_h_cntr : (wrapHourSide s).h_cntr = 0 := rfl
@[simp] theorem wrapHourSide_db : (wrapHourSide s).db = s.db := rfl
@[simp] theorem wrapHourSide_cfg : (wrapHourSide s).cfg = s.cfg := rfl
@[simp] theorem wrapHourSide_history : (wrapHourSide s).history = s.history := rfl
@[simp] theorem wrapHourSide_events : (wrapHourSide s).events = s.events := rfl

/-! ### showOutputs -/

@[simp] theorem showOutputs_sec : (showOutputs s).sec = s.sec := rfl
@[simp] theorem showOutputs_m_on : (showOutputs s).m_on = s.m_on := rfl
@[simp] theorem showOutputs_h_on : (showOutputs s).h_on = s.h_on := rfl
@[simp] theorem showOutputs_m_tick : (showOutputs s).m_tick = s.m_tick := rfl
@[simp] theorem showOutputs_h_tick : (showOutputs s).h_tick = s.h_tick := rfl
@[simp] theorem showOutputs_m_index : (showOutputs s).m_index = s.m_index := rfl
@[simp] theorem showOutputs_h_index : (showOutputs s).h_index = s.h_index := rfl
@[simp] theorem showOutputs_m_cntr : (showOutputs s).m_cntr = s.m_cntr := rfl
@[simp] theorem showOutputs_h_cntr : (showOutputs s).h_cntr = s.h_cntr := rfl
@[simp] theorem showOutputs_db : (showOutputs s).db = s.db := rfl
@[simp] theorem showOutputs_cfg : (showOutputs s).cfg = s.cfg := rfl
@[simp] theorem showOutputs_history : (showOutputs s).history = s.history ++ [dutyNow s] := rfl
@[simp] theorem showOutputs_events : (showOutputs s).events = s.events := rfl

/-! ### clearSeconds -/

@[simp] theorem clearSeconds_sec : (clearSeconds s).sec = 0 := rfl
@[simp] theorem clearSeconds_m_on : (clearSeconds s).m_on = s.m_on := rfl
@[simp] theorem clearSeconds_h_on : (clearSeconds s).h_on = s.h_on := rfl
@[simp] theorem clearSeconds_m_tick : (clearSeconds s).m_tick = s.m_tick := rfl
@[simp] theorem clearSeconds_h_tick : (clearSeconds s).h_tick = s.h_tick := rfl
@[simp] theorem clearSeconds_m_index : (clearSeconds s).m_index = s.m_index := rfl
@[simp] theorem clearSeconds_h_index : (clearSeconds s).h_index = s.h_index := rfl
@[simp] theorem clearSeconds_m_cntr : (clearSeconds s).m_cntr = s.m_cntr := rfl
@[simp] theorem clearSeconds_h_cntr : (clearSeconds s).h_cntr = s.h_cntr := rfl
@[simp] theorem clearSeconds_db : (clearSeconds s).db = s.db := rfl
@[simp] theorem clearSeconds_cfg : (clearSeconds s).cfg = s.cfg := rfl
@[simp] theorem clearSeconds_history : (clearSeconds s).history = s.history := rfl
@[simp] theorem clearSeconds_events : (clearSeconds s).events = s.events := rfl

/-! ### countSecond -/

@[simp] theorem countSecond_sec : (countSecond s).sec = s.sec + 1 := rfl
@[simp] theorem countSecond_m_on : (countSecond s).m_on = s.m_on := rfl
@[simp] theorem countSecond_h_on : (countSecond s).h_on = s.h_on := rfl
@[simp] theorem countSecond_m_tick : (countSecond s).m_tick = s.m_tick := rfl
@[simp] theorem countSecond_h_tick : (countSecond s).h_tick = s.h_tick := rfl
@[simp] theorem countSecond_m_index : (countSecond s).m_index = s.m_index := rfl
@[simp] theorem countSecond_h_index : (countSecond s).h_index = s.h_index := rfl
@[simp] theorem countSecond_m_cntr : (countSecond s).m_cntr = s.m_cntr := rfl
@[simp] theorem countSecond_h_cntr : (countSecond s).h_cntr = s.h_cntr := rfl
@[simp] theorem countSecond_db : (countSecond s).db = s.db := rfl
@[simp] theorem countSecond_cfg : (countSecond s).cfg = s.cfg := rfl
@[simp] theorem countSecond_history : (countSecond s).history = s.history := rfl
@[simp] theorem countSecond_events : (countSecond s).events = s.events := rfl

/-! ### openWindow -/

@[simp] theorem openWindow_sec : (openWindow s).sec = s.sec := rfl
@[simp] theorem openWindow_m_on : (openWindow s).m_on = s.m_on := rfl
@[simp] theorem openWindow_h_on : (openWindow s).h_on = s.h_on := rfl
@[simp] theorem openWindow_m_tick : (openWindow s).m_tick = s.m_tick := rfl
@[simp] theorem openWindow_h_tick : (openWindow s).h_tick = s.h_tick := rfl
@[simp] theorem openWindow_m_index : (openWindow s).m_index = s.m_index := rfl
@[simp] theorem openWindow_h_index : (openWindow s).h_index = s.h_index := rfl
@[simp] theorem openWindow_m_cntr : (openWindow s).m_cntr = s.m_cntr := rfl
@[simp] theorem openWindow_h_cntr : (openWindow s).h_cntr = s.h_cntr := rfl
@[simp] theorem openWindow_db : (openWindow s).db = true := rfl
@[simp] theorem openWindow_cfg : (openWindow s).cfg = s.cfg := rfl
@[simp] theorem openWindow_history : (openWindow s).history = s.history := rfl
@[simp] theorem openWindow_events : (openWindow s).events = s.events := rfl

/-! ### closeWindow -/

@[simp] theorem closeWindow_sec : (closeWindow s).sec = s.sec := rfl
@[simp] theorem closeWindow_m_on : (closeWindow s).m_on = s.m_on := rfl
@[simp] theorem closeWindow_h_on : (closeWindow s).h_on = s.h_on := rfl
@[simp] theorem closeWindow_m_tick : (closeWindow s).m_tick = s.m_tick := rfl
@[simp] theorem closeWindow_h_tick : (closeWindow s).h_tick = s.h_tick := rfl
@[simp] theorem closeWindow_m_index : (closeWindow s).m_index = s.m_index := rfl
@[simp] theorem closeWindow_h_index : (closeWindow s).h_index = s.h_index := rfl
@[simp] theorem closeWindow_m_cntr : (closeWindow s).m_cntr = s.m_cntr := rfl
@[simp] theorem closeWindow_h_cntr : (closeWindow s).h_cntr = s.h_cntr := rfl
@[simp] theorem closeWindow_db : (closeWindow s).db = false := rfl
@[simp] theorem closeWindow_cfg : (closeWindow s).cfg = s.cfg := rfl
@[simp] theorem closeWindow_history : (closeWindow s).history = s.history := rfl
@[simp] theorem closeWindow_events : (closeWindow s).events = s.events := rfl

/-! ### resetRegisters -/

@[simp] theorem resetRegisters_sec : (resetRegisters s).sec = 0 := rfl
@[simp] theorem resetRegisters_m_on : (resetRegisters s).m_on = s.cfg.MZ := rfl
@[simp] theorem resetRegisters_h_on : (resetRegisters s).h_on = s.cfg.HZ := rfl
@[simp] theorem resetRegisters_m_tick : (resetRegisters s).m_tick = 0 := rfl
@[simp] theorem resetRegisters_h_tick : (resetRegisters s).h_tick = 0 := rfl
@[simp] theorem resetRegisters_m_index : (resetRegisters s).m_index = 0 := rfl
@[simp] theorem resetRegisters_h_index : (resetRegisters s).h_index = 0 := rfl
@[simp] theorem resetRegisters_m_cntr : (resetRegisters s).m_cntr = 0 := rfl
@[simp] theorem resetRegisters_h_cntr : (resetRegisters s).h_cntr = 0 := rfl
@[simp] theorem resetRegisters_db : (resetRegisters s).db = false := rfl
@[simp] theorem resetRegisters_cfg : (resetRegisters s).cfg = s.cfg := rfl
@[simp] theorem resetRegisters_history : (resetRegisters s).history = [⟨s.cfg.MZ, s.cfg.HZ⟩] := rfl
@[simp] theorem resetRegisters_events : (resetRegisters s).events = s.events := rfl

/-! ### deliverNext -/

@[simp] theorem deliverNext_sec : (deliverNext w s).sec = s.sec := rfl
@[simp] theorem deliverNext_m_on : (deliverNext w s).m_on = s.m_on := rfl
@[simp] theorem deliverNext_h_on : (deliverNext w s).h_on = s.h_on := rfl
@[simp] theorem deliverNext_m_tick : (deliverNext w s).m_tick = s.m_tick := rfl
@[simp] theorem deliverNext_h_tick : (deliverNext w s).h_tick = s.h_tick := rfl
@[simp] theorem deliverNext_m_index : (deliverNext w s).m_index = s.m_index := rfl
@[simp] theorem deliverNext_h_index : (deliverNext w s).h_index = s.h_index := rfl
@[simp] theorem deliverNext_m_cntr : (deliverNext w s).m_cntr = s.m_cntr := rfl
@[simp] theorem deliverNext_h_cntr : (deliverNext w s).h_cntr = s.h_cntr := rfl
@[simp] theorem deliverNext_db : (deliverNext w s).db = s.db := rfl
@[simp] theorem deliverNext_cfg : (deliverNext w s).cfg = s.cfg := rfl
@[simp] theorem deliverNext_history : (deliverNext w s).history = s.history := rfl
@[simp] theorem deliverNext_events : (deliverNext w s).events = w :: s.events := rfl

end Sys2Proof.Machine
end

