-- ==== Sys2Proof/Laws/Ops.lean ====
section
/-!
SUPPORT. What the shared operations do, said once: the guard, delivery, and the registers that
STEP and its repetition leave alone.
-/

namespace Sys2Proof.Machine

/-! ### The guard -/

/-- All that `perform` can answer as a next state. -/
theorem perform_eq_next {f : State → State} {s t : State} :
    perform f s = .next t ↔ wfCfg s.cfg = true ∧ wfState s = true ∧ t = f s := by
  unfold perform
  by_cases hc : wfCfg s.cfg = true <;> by_cases hs : wfState s = true <;> simp [hc, hs, eq_comm]

theorem perform_next {f : State → State} {s : State} (hc : wfCfg s.cfg = true)
    (hs : wfState s = true) : perform f s = .next (f s) := perform_eq_next.2 ⟨hc, hs, rfl⟩

theorem perform_badConfiguration {f : State → State} {s : State} (hc : wfCfg s.cfg ≠ true) :
    perform f s = .refused .badConfiguration := if_neg hc

theorem perform_stateOutsideWF {f : State → State} {s : State} (hc : wfCfg s.cfg = true)
    (hs : wfState s ≠ true) : perform f s = .refused .stateOutsideWF := by
  unfold perform
  rw [if_pos hc, if_neg hs]

/-- All that `underWFCfg` can answer as a next state. -/
theorem underWFCfg_eq_next {f : State → State} {s t : State} :
    underWFCfg f s = .next t ↔ wfCfg s.cfg = true ∧ t = f s := by
  unfold underWFCfg
  by_cases hc : wfCfg s.cfg = true <;> simp [hc, eq_comm]

/-! ### What the well-formedness checks say -/

theorem wfState_iff {s : State} :
    wfState s = true ↔ s.sec.toNat ≤ 59 ∧ s.m_tick.toNat ≤ 4 ∧ s.h_tick.toNat ≤ 11 ∧
      s.m_cntr.toNat ≤ 59 ∧ s.h_cntr.toNat ≤ 11 := by
  simp [wfState, and_assoc]

theorem wfCfg_iff {c : Cfg} :
    wfCfg c = true ↔ divisibleOk c = true ∧ sumsOk c = true ∧ c.TPM.toNat = 60 ∧
      periodsOk c = true := by
  simp [wfCfg, ticksOk, and_assoc]

/-- Delivery: what a well-formed state answers is of the operation's effect alone. -/
theorem wfState_congr {s t : State} (h1 : t.sec = s.sec) (h2 : t.m_tick = s.m_tick)
    (h3 : t.h_tick = s.h_tick) (h4 : t.m_cntr = s.m_cntr) (h5 : t.h_cntr = s.h_cntr) :
    wfState t = wfState s := by
  simp [wfState, h1, h2, h3, h4, h5]

/-! ### The conditional sub-steps -/

theorem subStep3_carry {s : State} (h : minuteCarry s = true) :
    subStep3 s = accumulateHour (carryIntoHourTick (advanceMinuteIndex s)) := if_pos h

theorem subStep3_noCarry {s : State} (h : minuteCarry s ≠ true) : subStep3 s = s := if_neg h

theorem subStep4_carry {s : State} (h : hourCarry s = true) :
    subStep4 s = carryIntoHourIndex s := if_pos h

theorem subStep4_noCarry {s : State} (h : hourCarry s ≠ true) : subStep4 s = s := if_neg h

theorem subStep5_wrap {s : State} (h : atHourBoundary s = true) :
    subStep5 s = wrapMinuteSide s := if_pos h

theorem subStep5_noWrap {s : State} (h : atHourBoundary s ≠ true) : subStep5 s = s := if_neg h

theorem subStep6_wrap {s : State} (h : atHalfDay s = true) : subStep6 s = wrapHourSide s := if_pos h

theorem subStep6_noWrap {s : State} (h : atHalfDay s ≠ true) : subStep6 s = s := if_neg h

/-! ### The registers STEP leaves alone -/

@[simp] theorem minuteStep_sec (s : State) : (minuteStep s).sec = s.sec := by
  unfold minuteStep subStep6 subStep5 subStep4 subStep3
  repeat' split
  all_goals rfl

@[simp] theorem minuteStep_db (s : State) : (minuteStep s).db = s.db := by
  unfold minuteStep subStep6 subStep5 subStep4 subStep3
  repeat' split
  all_goals rfl

@[simp] theorem minuteStep_cfg (s : State) : (minuteStep s).cfg = s.cfg := by
  unfold minuteStep subStep6 subStep5 subStep4 subStep3
  repeat' split
  all_goals rfl

@[simp] theorem minuteStep_events (s : State) : (minuteStep s).events = s.events := by
  unfold minuteStep subStep6 subStep5 subStep4 subStep3
  repeat' split
  all_goals rfl

/-- A STEP shows one new pair: the duty values it ends with. -/
theorem minuteStep_history (s : State) :
    (minuteStep s).history = s.history ++ [dutyNow (minuteStep s)] := by
  unfold minuteStep subStep6 subStep5 subStep4 subStep3
  repeat' split
  all_goals rfl

/-! ### Repetition -/

theorem minuteSteps_add (m n : Nat) (s : State) :
    minuteSteps (m + n) s = minuteSteps n (minuteSteps m s) := by
  induction m generalizing s with
  | zero => rw [Nat.zero_add]; rfl
  | succ m ih => rw [Nat.succ_add]; exact ih (minuteStep s)

theorem minuteSteps_succ (n : Nat) (s : State) :
    minuteSteps (n + 1) s = minuteStep (minuteSteps n s) := minuteSteps_add n 1 s

@[simp] theorem minuteSteps_sec (n : Nat) (s : State) : (minuteSteps n s).sec = s.sec := by
  induction n with
  | zero => rfl
  | succ n ih => rw [minuteSteps_succ, minuteStep_sec, ih]

@[simp] theorem minuteSteps_db (n : Nat) (s : State) : (minuteSteps n s).db = s.db := by
  induction n with
  | zero => rfl
  | succ n ih => rw [minuteSteps_succ, minuteStep_db, ih]

@[simp] theorem minuteSteps_cfg (n : Nat) (s : State) : (minuteSteps n s).cfg = s.cfg := by
  induction n with
  | zero => rfl
  | succ n ih => rw [minuteSteps_succ, minuteStep_cfg, ih]

@[simp] theorem minuteSteps_events (n : Nat) (s : State) :
    (minuteSteps n s).events = s.events := by
  induction n with
  | zero => rfl
  | succ n ih => rw [minuteSteps_succ, minuteStep_events, ih]

/-! ### Each operation as a guarded effect -/

theorem exec_timer (s : State) : exec .timer s = perform timerSignal s := rfl
theorem exec_btnm (on : Bool) (s : State) : exec (.btnm on) s = perform (minuteButton on) s := rfl
theorem exec_btnh (on : Bool) (s : State) : exec (.btnh on) s = perform (hourButton on) s := rfl
theorem exec_step (s : State) : exec .step s = perform minuteStep s := rfl
theorem exec_advance (s : State) : exec .advance s = perform advanceOneMinute s := rfl
theorem exec_reset (s : State) : exec .reset s = underWFCfg resetRegisters s := rfl

/-! ### What a step can answer -/

/-- All the ways a step answers a next state: the block was idle, or one word was consumed and its
operation performed. -/
theorem step_eq_next {s t : State} (h : step s = .next t) :
    (s.events = [] ∧ wfCfg s.cfg = true ∧ wfState s = true ∧ t = s) ∨
    (∃ w rest i, s.events = w :: rest ∧ decode w = .ok i ∧
      exec i { s with events := rest } = .next t) := by
  unfold step nextEvent at h
  cases he : s.events with
  | nil =>
    rw [he] at h
    exact .inl ⟨rfl, perform_eq_next.1 h⟩
  | cons w rest =>
    rw [he] at h
    dsimp only at h
    split at h
    · exact .inr ⟨w, rest, _, rfl, ‹_›, h⟩
    · rename_i e _
      cases e
      exact absurd h (by simp [rejectEvent])

end Sys2Proof.Machine
end

