-- ==== Sys2Proof/Laws/Tables.lean ====
section
/-!
SUPPORT. The calibration tables over the integers: entries, prefix sums, and what `WFCfg` says of
them.
-/

namespace Sys2Proof.Machine

theorem entries_length (t : Table) : (entries t).length = 12 := by simp [entries]

theorem entryAt_index (t : Table) (i : TableIndex) : entryAt t i.val = (lutRead t i).toNat := by
  simp [entryAt, entries, lutRead, List.getD]

theorem entryAt_mem (t : Table) {n : Nat} (h : n < 12) : entryAt t n ∈ entries t := by
  have : n < (entries t).length := by rw [entries_length]; exact h
  simp [entryAt, List.getD, List.getElem?_eq_getElem this]

@[simp] theorem spanBefore_zero (t : Table) : spanBefore t 0 = 0 := rfl

theorem spanBefore_succ (t : Table) {n : Nat} (h : n < 12) :
    spanBefore t (n + 1) = spanBefore t n + entryAt t n := by
  have : n < (entries t).length := by rw [entries_length]; exact h
  unfold spanBefore entryAt
  rw [List.take_add_one, List.sum_append]
  simp [List.getD, List.getElem?_eq_getElem this]

theorem spanBefore_twelve (t : Table) : spanBefore t 12 = tableSum t := by
  unfold spanBefore tableSum
  rw [List.take_of_length_le (by rw [entries_length])]

theorem spanBefore_mono (t : Table) {m n : Nat} (h : m ≤ n) (hn : n ≤ 12) :
    spanBefore t m ≤ spanBefore t n := by
  induction n, h using Nat.le_induction with
  | base => exact le_rfl
  | succ n h ih =>
    rw [spanBefore_succ t (by omega)]
    have := ih (by omega)
    omega

theorem spanBefore_le (t : Table) {n : Nat} (h : n ≤ 12) : spanBefore t n ≤ tableSum t := by
  rw [← spanBefore_twelve]
  exact spanBefore_mono t h le_rfl

/-- What `WFCfg` says of the numbers STEP and TIMER use (10_state.md R33, R34). -/
theorem wfCfg_numbers {c : Cfg} (h : wfCfg c = true) :
    (∀ n < 12, entryAt c.MT n % 5 = 0) ∧ (∀ n < 12, entryAt c.HT n % 12 = 0) ∧
      c.MZ.toNat + tableSum c.MT ≤ 65535 ∧ c.HZ.toNat + tableSum c.HT ≤ 65535 ∧
      c.TPM.toNat = 60 := by
  simp only [wfCfg, divisibleOk, sumsOk, ticksOk, Bool.and_eq_true, List.all_eq_true,
    beq_iff_eq, decide_eq_true_eq] at h
  obtain ⟨⟨⟨⟨hm, hh⟩, hs⟩, ht⟩, -⟩ := h
  exact ⟨fun n hn => hm _ (entryAt_mem _ hn), fun n hn => hh _ (entryAt_mem _ hn), hs.1, hs.2, ht⟩

/-- A quotient of a 16-bit value fits 16 bits. -/
theorem divConst_toNat (x : Word) (k : Nat) : (divConst x k).toNat = x.toNat / k := by
  simp only [divConst, BitVec.toNat_ofNat]
  exact Nat.mod_eq_of_lt (lt_of_le_of_lt (Nat.div_le_self _ _) x.isLt)

end Sys2Proof.Machine
end

