-- ==== Sys2Proof/Laws/Effects.lean ====
section
/-!
SUPPORT. What STEP and the dispatcher's operations do, said once each, on `WF` states.
-/

namespace Sys2Proof.Machine

/-! ### The four conditions of STEP, in terms of the registers it starts with -/

theorem minuteTick_carries (x : BitVec 3) : (x.toNat + 1) % 8 = 5 ↔ x = 4#3 := by
  revert x; decide

theorem hourTick_carries (x : BitVec 4) : (x.toNat + 1) % 16 = 12 ↔ x = 11#4 := by
  revert x; decide

theorem minuteCount_reaches (x : BitVec 6) (h : x.toNat ≤ 59) :
    60 ≤ (x.toNat + 1) % 64 ↔ x = 59#6 := by
  revert x; decide

theorem hourCount_reaches (x : BitVec 4) (h : x.toNat ≤ 11) :
    12 ≤ (x.toNat + 1) % 16 ↔ x = 11#4 := by
  revert x; decide

/-- What STEP does on a `WF` state: which of its updates run, decided by the registers it starts
with (40_step.md R92 to R100). -/
theorem minuteStep_eq {s : State} (hs : wfState s = true) :
    minuteStep s =
      (let u := accumulateMinute (countMinute s)
       let v :=
        if s.m_tick = 4 then accumulateHour (carryIntoHourTick (advanceMinuteIndex u)) else u
       let w := if s.m_tick = 4 ∧ s.h_tick = 11 then carryIntoHourIndex v else v
       let x := if s.m_cntr = 59 then wrapMinuteSide w else w
       showOutputs (if s.m_cntr = 59 ∧ s.h_cntr = 11 then wrapHourSide x else x)) := by
  obtain ⟨-, -, h3, h4, h5⟩ := wfState_iff.1 hs
  have e1 := minuteTick_carries s.m_tick
  have e2 := hourTick_carries s.h_tick
  have e3 : ¬s.h_tick.toNat = 12 := by omega
  have e4 := minuteCount_reaches s.m_cntr h4
  have e5 := hourCount_reaches s.h_cntr h5
  have e6 : ¬12 ≤ s.h_cntr.toNat := by omega
  by_cases c1 : s.m_cntr = 59#6 <;> by_cases c2 : s.m_tick = 4#3 <;>
    by_cases c3 : s.h_tick = 11#4 <;> by_cases c4 : s.h_cntr = 11#4 <;>
    simp only [c1, c2, c3, c4, iff_true, iff_false] at e1 e2 e3 e4 e5 e6 <;>
    simp [minuteStep, subStep3, subStep4, subStep5, subStep6, minuteCarry, hourCarry,
      atHourBoundary, atHalfDay, segSteps, nseg, minutesPerHour, hoursPerCycle, c1, c2, c3, c4,
      e1, e2, e3, e4, e5, e6]

/-! ### The dispatcher -/

theorem buttonActs_iff (s : State) (on : Bool) :
    buttonActs s on = true ↔ s.db = false ∧ on = true := by
  simp [buttonActs, otherAtRest]

theorem minuteDue_iff {s : State} (hc : wfCfg s.cfg = true) (hs : wfState s = true) :
    minuteDue (countSecond s) = true ↔ s.sec = 59 := by
  have h : ∀ x : BitVec 6, x.toNat ≤ 59 → ((x + 1).toNat = 60 ↔ x = 59) := by decide
  simp only [minuteDue, countSecond_sec, countSecond_cfg, (wfCfg_iff.1 hc).2.2.1, beq_iff_eq]
  exact h _ (wfState_iff.1 hs).1

/-- What TIMER does (41_dispatch.md R122). -/
theorem timerSignal_eq {s : State} (hc : wfCfg s.cfg = true) (hs : wfState s = true) :
    timerSignal s =
      if s.db = true then closeWindow s
      else if s.sec = 59 then advanceOneMinute (countSecond s) else countSecond s := by
  unfold timerSignal
  simp only [minuteDue_iff hc hs]

/-- What BTNM does (41_dispatch.md R124). -/
theorem minuteButton_eq (on : Bool) (s : State) :
    minuteButton on s =
      if s.db = false ∧ on = true then openWindow (minuteStep (clearSeconds s)) else s := by
  unfold minuteButton
  simp only [buttonActs_iff]

/-- What BTNH does (41_dispatch.md R126). -/
theorem hourButton_eq (on : Bool) (s : State) :
    hourButton on s =
      if s.db = false ∧ on = true then openWindow (minuteSteps burstSteps s) else s := by
  unfold hourButton
  simp only [buttonActs_iff]

/-- All that idling can answer as a next state. -/
theorem idle_eq_next {s t : State} :
    idle s = .next t ↔ wfCfg s.cfg = true ∧ wfState s = true ∧ t = s := perform_eq_next

/-- What the delivery of a word does. -/
theorem nextEvent_eq_some {s t : State} {w : EventWord} :
    nextEvent s = some (w, t) ↔ ∃ rest, s.events = w :: rest ∧ t = { s with events := rest } := by
  unfold nextEvent
  cases h : s.events with
  | nil => simp
  | cons v rest =>
    constructor
    · intro e
      cases e
      exact ⟨rest, rfl, rfl⟩
    · rintro ⟨r, e, rfl⟩
      cases e
      rfl

/-! ### Runs of operations -/

theorem performAll_append (is js : List Instr) (s : State) :
    performAll (is ++ js) s =
      match performAll is s with
      | .next t => performAll js t
      | .fault r => .fault r
      | .refused r => .refused r := by
  induction is generalizing s with
  | nil => rfl
  | cons i is ih =>
    simp only [List.cons_append, performAll]
    cases exec i s with
    | next t => exact ih t
    | fault r => rfl
    | refused r => rfl

end Sys2Proof.Machine
end

