-- ==== Sys2Proof/Laws/PerInstr.lean ====
section
/-!
SUPPORT. Statements made per constructor of `Instr`.
-/

namespace Sys2Proof.Laws

/-- An operation has an event word exactly when it is an event (30_encoding.md R72, R77). -/
def HasWord.Statement (i : Instr) : Prop := (encode i).isSome = i.wellFormed

theorem HasWord.timer : HasWord.Statement .timer := rfl
theorem HasWord.btnm (on : Bool) : HasWord.Statement (.btnm on) := rfl
theorem HasWord.btnh (on : Bool) : HasWord.Statement (.btnh on) := rfl
theorem HasWord.step : HasWord.Statement .step := rfl
theorem HasWord.advance : HasWord.Statement .advance := rfl
theorem HasWord.reset : HasWord.Statement .reset := rfl

end Sys2Proof.Laws
end

