-- ==== Sys2Proof/Tests/Slice0.lean ====
section
/-!
SUPPORT. Tests: the smoke tests of the checks, each word of the spec's encoding, single operations
against the spec's vectors (95_test_vectors.md), and for each statement with hypotheses a witness
that meets them. The vectors' table profile TP-A is the spec's own test data.
-/

namespace Sys2Proof.Tests

open Sys2Proof.Machine

/-- `SEG * NSEG = MPH` (00_scope.md R8). -/
theorem test_structural_constants : segSteps * nseg = minutesPerHour := by decide

/-! ### The test profile and states -/

/-- Profile TP-A of 95_test_vectors.md. -/
def tpA : Cfg where
  TPM := 60
  MZ := 5
  HZ := 5
  MT := #v[640, 600, 560, 520, 480, 440, 400, 360, 320, 280, 240, 200]
  HT := #v[744, 720, 696, 672, 648, 624, 600, 576, 552, 528, 504, 480]
  MP := 10000
  HP := 10000

/-- The state written as the spec's tuple
`(sec, m_on, h_on, m_tick, h_tick, m_index, h_index, m_cntr, h_cntr, db)`, under TP-A, showing its
duty values, with nothing to be delivered. -/
def tup (sec : BitVec 6) (mOn hOn : Word) (mTick : BitVec 3) (hTick : BitVec 4)
    (mIdx hIdx : TableIndex) (mCntr : BitVec 6) (hCntr : BitVec 4) (db : Bool) : State :=
  ⟨sec, mOn, hOn, mTick, hTick, mIdx, hIdx, mCntr, hCntr, db, tpA, [⟨mOn, hOn⟩], []⟩

/-- What the spec's tuple shows of an outcome. -/
def shown (o : Host.Outcome State Fault Refusal) : Option (BitVec 6 × CoreRegs × Bool) :=
  (nextState o).map fun s => (s.sec, coreRegs s, s.db)

/-- The spec's tuple as an expected result. -/
def tuple (s : State) : Option (BitVec 6 × CoreRegs × Bool) := some (s.sec, coreRegs s, s.db)

/-- The reason of a refusal. -/
def refusal (o : Host.Outcome State Fault Refusal) : Option Refusal :=
  match o with
  | .next _ => none
  | .fault _ => none
  | .refused r => some r

/-- The reset state under TP-A. -/
def atReset : State := State.powerOn tpA
/-- V3: minute 4. -/
def atMark : State := tup 0 517 5 4 0 0 0 4 0 false
/-- V8: minute 59 of hour 0. -/
def atHour : State := tup 0 5005 687 4 11 11 0 59 0 false
/-- V13b: minute 59 of hour 11. -/
def atHalf : State := tup 0 5005 7309 4 11 11 11 59 11 false
/-- V13a: minute 55 of hour 11. -/
def at55 : State := tup 0 4845 7309 0 11 11 11 55 11 false
/-- V21a: one tick before the minute. -/
def lastTick : State := tup 59 5 5 0 0 0 0 0 0 false
/-- V21b: inside a debounce window. -/
def inWindow : State := tup 30 133 5 1 0 0 0 1 0 true

/-! ### Smoke tests: each check refuses an ill-formed term -/

theorem test_advance_is_no_event : Instr.advance.wellFormed = false := by decide
theorem test_reset_is_no_event : Instr.reset.wellFormed = false := by decide
/-- V33, V39. -/
theorem test_cfg_accepted : wfCfg tpA = true ∧
    wfCfg { tpA with MT := Vector.replicate 12 0, HT := Vector.replicate 12 0 } = true := by
  decide
/-- V34. -/
theorem test_cfg_minute_divisibility :
    wfCfg { tpA with MT := #v[640, 600, 560, 521, 480, 440, 400, 360, 320, 280, 240, 200] } =
      false := by decide
/-- V35. -/
theorem test_cfg_hour_divisibility :
    wfCfg { tpA with HT := #v[750, 720, 696, 672, 648, 624, 600, 576, 552, 528, 504, 480] } =
      false := by decide
/-- V36, and V37: accepted at exactly 65535, but `DutyFits` fails. -/
theorem test_cfg_sums :
    wfCfg { tpA with MT := Vector.replicate 12 6000 } = false ∧
    wfCfg { tpA with MT := Vector.replicate 12 5460, MZ := 15 } = true ∧
    dutyFits { tpA with MT := Vector.replicate 12 5460, MZ := 15 } = false := by decide
/-- The hour sum of R34 (b). -/
theorem test_cfg_hour_sum : wfCfg { tpA with HT := Vector.replicate 12 6000 } = false := by decide
/-- V38. -/
theorem test_cfg_ticks : wfCfg { tpA with TPM := 30 } = false := by decide
/-- R34 (d). -/
theorem test_cfg_periods : wfCfg { tpA with MP := 0 } = false ∧ wfCfg { tpA with HP := 0 } = false := by
  decide
/-- R35, one register at a time. -/
theorem test_wf_bounds : wfState { atReset with sec := 60 } = false ∧
    wfState { atReset with m_tick := 5 } = false ∧ wfState { atReset with h_tick := 12 } = false ∧
    wfState { atReset with m_cntr := 60 } = false ∧ wfState { atReset with h_cntr := 12 } = false := by
  decide

/-! ### The words of 30_encoding.md R75, written out from `op` and `on` -/

theorem test_word_timer : decode 0b100 = .ok .timer := by decide
theorem test_word_btnm : decode 0b101 = .ok (.btnm true) ∧ decode 0b001 = .ok (.btnm false) := by
  decide
theorem test_word_btnh : decode 0b110 = .ok (.btnh true) ∧ decode 0b010 = .ok (.btnh false) := by
  decide
theorem test_word_step : decode 0b111 = .ok .step := by decide
theorem test_word_reserved : decode 0b000 = .error (.reservedEvent 0b000) ∧
    decode 0b011 = .error (.reservedEvent 0b011) := by decide
theorem test_table_words : decodeTableWord 8 4 = some .timer ∧ decodeTableWord 8 1 = some (.btnm false) ∧
    decodeTableWord 8 2 = some (.btnh false) ∧ decodeTableWord 8 7 = some .step ∧
    decodeTableWord 8 0 = none := by decide
/-- The word delivered next is run by the very next step (V21). -/
theorem test_fetch_word : shown (step (State.reset.withFetchWord 8 4)) =
    tuple { State.reset with sec := 1 } := by decide +kernel

/-! ### Single operations, expected results from 95_test_vectors.md -/

/-- V20, an unreachable `WF` state: the guard wraps `m_index`, both tables are read first. -/
theorem test_step_guard : shown (exec .step (tup 0 1000 2000 4 3 11 11 10 2 false)) =
    tuple (tup 0 1040 2040 0 4 0 11 11 2 false) := by decide +kernel
/-- V14 from V13b: both wraps in one STEP; the transients 5045 and 7349 are not shown. -/
theorem test_step_half_day : shown (exec .step atHalf) = tuple (tup 0 5 5 0 0 0 0 0 0 false) ∧
    (nextState (exec .step atHalf)).map (·.history) = some [⟨5005, 7309⟩, ⟨5, 5⟩] := by
  decide +kernel
/-- V21a. -/
theorem test_timer_minute : shown (exec .timer lastTick) = tuple (tup 0 133 5 1 0 0 0 1 0 false) := by
  decide +kernel
/-- V21b. -/
theorem test_timer_release : shown (exec .timer inWindow) =
    tuple (tup 30 133 5 1 0 0 0 1 0 false) := by decide +kernel
/-- V25a: across the hour boundary, `sec` discarded. -/
theorem test_btnm_acts : shown (exec (.btnm true) (tup 12 5005 687 4 11 11 0 59 0 false)) =
    tuple (tup 0 5 749 0 0 0 1 0 1 true) := by decide +kernel
/-- V23: the hour button is pressed too. -/
theorem test_btnm_noop : shown (exec (.btnm false) (tup 30 5 5 0 0 0 0 0 0 false)) =
    tuple (tup 30 5 5 0 0 0 0 0 0 false) := by decide +kernel
/-- V30: from 11:23 to 0:23, and V27's kept `sec`. -/
theorem test_btnh_acts : shown (exec (.btnh true) (tup 17 2613 7029 3 4 4 11 23 11 false)) =
    tuple (tup 17 2613 253 3 4 4 0 23 0 true) := by decide +kernel
/-- V29: a debounce drop. -/
theorem test_btnh_drop : shown (exec (.btnh true) (tup 0 5 749 0 0 0 1 0 1 true)) =
    tuple (tup 0 5 749 0 0 0 1 0 1 true) := by decide +kernel
/-- R120 from V3's state (then V5), `sec` cleared whatever `db` is. -/
theorem test_advance : shown (exec .advance (tup 30 517 5 4 0 0 0 4 0 true)) =
    tuple (tup 0 645 67 0 1 1 0 5 0 true) := by decide +kernel
/-- R39, R180. -/
theorem test_reset : exec .reset { inWindow with sec := 63 } = .next atReset := rfl
/-- V32 through a delivered word: the STEP event leaves `sec` and `db`. -/
theorem test_step_word : shown (step (tup 30 133 5 1 0 0 0 1 0 true |>.withFetchWord 8 7)) =
    tuple (tup 30 261 5 2 0 0 0 2 0 true) := by decide +kernel
/-- R76 through a delivered word. -/
theorem test_reserved_word : refusal (step (atReset.withFetchWord 8 3)) =
    some (.reservedEvent 3) := by decide +kernel

/-! ### Traces and triggers -/

/-- R79, R80: text with a comment, pseudo-instructions and a body. -/
theorem test_assemble : assembleTrace ("REP 2 ".toList ++ [Char.ofNat 123] ++
    "\n BTNM # one minute\n TIMER ".toList ++ [Char.ofNat 125] ++ "; TICKS 2; BTNH 0".toList) =
    some [.btnm true, .timer, .btnm true, .timer, .timer, .timer, .btnh false] := by
  decide +kernel
theorem test_assemble_rejects : assembleTrace "TIMER 1".toList = none ∧
    assembleTrace "STEP STEP".toList = none ∧ assembleTrace "ADVANCE".toList = none := by
  decide +kernel
/-- The digits of program G3's distinct events (95_test_vectors.md). -/
theorem test_hex_digits : (traceWords [.timer, .btnm false, .btnm true, .btnh true, .btnh false,
    .step]).map hexDigit = ['4', '1', '5', '6', '2', '7'] := by decide +kernel
/-- R151: two arrivals, one event; R152: the choice of a flag that is not raised delivers none. -/
theorem test_pending : deliveredEvents pendingAtReset [.arrive .timer, .arrive .timer,
    .choose .timer true, .choose .timer true, .choose .hourButton true] = [.timer] := by decide

/-! ### Witnesses: states and operands that meet the hypotheses of each statement -/

theorem witness_EncodedEventsDecodeBack : Instr.step.wellFormed = true ∧
    Instr.advance.wellFormed = false ∧ decode 7 = .ok .step := by decide
theorem witness_DeliveredWordRunsItsOperation :
    ({ atReset with events := [5, 4] } : State).events = 5 :: [4] ∧ decode 5 = .ok (.btnm true) := by
  decide
theorem witness_ReservedWordsAreRefused :
    ({ atReset with events := [0] } : State).events = 0b000 :: [] ∧
    ({ atReset with events := [3, 4] } : State).events = 0b011 :: [4] := by decide
theorem witness_IdleKeepsEverything :
    wfCfg atMark.cfg = true ∧ wfState atMark = true ∧ atMark.events = [] := by decide
theorem witness_TraceRunsInDeliveryOrder :
    ∀ i ∈ [Instr.timer, .btnm true, .btnh false, .step], i.wellFormed = true := by decide
theorem witness_InputsTheSpecExcludesAreRefused :
    wfCfg ({ atReset with cfg := { tpA with TPM := 30 } } : State).cfg = false ∧
    wfCfg atReset.cfg = true ∧ wfState { atReset with sec := 60 } = false ∧
    Instr.timer ≠ Instr.reset := by decide
theorem witness_EveryOperationCompletes :
    wfCfg inWindow.cfg = true ∧ wfState inWindow = true := by decide
/-- Each branch of the result: within a mark, at a mark, at the hour, at the half day. -/
theorem witness_StepEventResult : ∀ s ∈ [atReset, atMark, atHour, atHalf],
    wfCfg s.cfg = true ∧ wfState s = true := by decide
theorem witness_MinuteCountersCountWithoutWrap : wfState atReset = true ∧ wfState atHour = true := by
  decide
theorem witness_HourBoundaryWrapsTheMinuteSide :
    60 ≤ ({ atHour with m_cntr := 60 } : State).m_cntr.toNat ∧ atHour.m_cntr.toNat < 60 ∧
    wfState atHour = true ∧
    (subStep4 (subStep3 (accumulateMinute (countMinute atHour)))).m_cntr = 60 := by decide
theorem witness_HalfDayBoundaryWrapsTheHourSide :
    12 ≤ ({ atHalf with h_cntr := 12 } : State).h_cntr.toNat ∧ atHalf.h_cntr.toNat < 12 ∧
    wfState atHalf = true ∧
    12 ≤ (subStep5 (subStep4 (subStep3 (accumulateMinute (countMinute atHalf))))).h_cntr.toNat := by
  decide
/-- One state for each of the four cases, at their boundaries. -/
theorem witness_StepInFourCases : wfCfg tpA = true ∧ ReachInv atReset ∧ ReachInv atMark ∧
    ReachInv atHour ∧ ReachInv atHalf ∧ atReset.m_cntr.toNat % 5 ≠ 4 ∧
    (atMark.m_cntr.toNat % 5 = 4 ∧ atMark.m_cntr.toNat ≠ 59) ∧
    (atHour.m_cntr.toNat = 59 ∧ atHour.h_cntr.toNat ≠ 11) ∧
    (atHalf.m_cntr.toNat = 59 ∧ atHalf.h_cntr.toNat = 11) := by decide
theorem witness_ClampedIndexGuardAgrees : wfCfg atHalf.cfg = true ∧ ReachInv atHalf := by decide
theorem witness_WorkedExampleOfTheScenario : wfCfg tpA = true ∧ tpA.MZ = 5 ∧ tpA.HZ = 5 ∧
    tpA.MT[0] = 640 ∧ tpA.HT[0] = 744 := by decide
theorem witness_AdvanceStepsThenClearsSeconds :
    wfCfg lastTick.cfg = true ∧ wfState lastTick = true := by decide
/-- A state for each of the three cases. -/
theorem witness_TimerEventResult : wfCfg tpA = true ∧ wfState inWindow = true ∧
    inWindow.db = true ∧ wfState atReset = true ∧ atReset.db = false ∧ atReset.sec ≠ 59 ∧
    wfState lastTick = true ∧ lastTick.db = false ∧ lastTick.sec = 59 := by decide
theorem witness_MinuteButtonEventResult : wfCfg tpA = true ∧ wfState atHour = true ∧
    atHour.db = false ∧ wfState inWindow = true ∧ ¬(inWindow.db = false ∧ true = true) := by decide
theorem witness_HourButtonEventResult : wfCfg tpA = true ∧ wfState atHour = true ∧
    atHour.db = false ∧ (59 : BitVec 6).toNat ≤ 59 ∧ wfState inWindow = true ∧
    ¬(inWindow.db = false ∧ true = true) := by decide
theorem witness_EachEventIsOneCriticalSection :
    wfCfg tpA = true ∧ wfState lastTick = true ∧ lastTick.db = false ∧ lastTick.sec = 59 ∧
    ({ lastTick with events := [6, 4] } : State).events = 6 :: [4] ∧
    ({ lastTick with events := [5] } : State).events = 5 :: [] ∧
    ({ lastTick with events := [4] } : State).events = 4 :: [] := by decide
theorem witness_BurstMovesExactlyOneHour :
    wfCfg atHalf.cfg = true ∧ ReachInv atHalf ∧ atHalf.db = false := by decide
/-- Both first presses act in a state outside the window. -/
theorem witness_PressesInsideTheWindowAreDropped : atReset.db = false ∧
    (∀ i ∈ [Instr.btnh true, .btnm false, .btnm true], ∃ on, i = .btnm on ∨ i = .btnh on) ∧
    (nextState (exec (.btnm true) atReset)).isSome = true ∧
    (nextState (exec (.btnh true) atReset)).isSome = true := by decide +kernel
theorem witness_SimultaneousPressIsNoOp : wfCfg atHour.cfg = true ∧ wfState atHour = true := by
  decide
/-- The first and the last tick before the STEP, from reset, and the STEP's own tick. -/
theorem witness_TicksOfAMinuteStepOnce : wfCfg tpA = true ∧ wfState lastTick = true ∧
    lastTick.db = false ∧ 0 < 60 - lastTick.sec.toNat ∧ wfState atReset = true ∧
    atReset.db = false ∧ 59 < 60 - atReset.sec.toNat := by decide
theorem witness_TimerAndPressOrdersDiffer : wfCfg atReset.cfg = true ∧ wfState atReset = true ∧
    atReset.db = false ∧ atReset.sec ≠ 59 := by decide
theorem witness_TwelveHourPressesReturn :
    wfCfg at55.cfg = true ∧ ReachInv at55 ∧ at55.db = false := by decide
theorem witness_ResetWritesEveryRegister :
    wfCfg ({ inWindow with sec := 63 } : State).cfg = true := by decide
theorem witness_ResetStateIsSafe : wfCfg tpA = true := by decide
theorem witness_EveryStepKeepsSafe : Safe atHalf ∧
    (nextState (step (atHalf.withFetchWord 8 6))).isSome = true ∧ Safe (atHalf.withFetchWord 8 6) ∧
    (nextState (exec .advance atHalf)).isSome = true := by decide +kernel
theorem witness_EveryReachableStateIsSafe : wfCfg tpA = true ∧ Reachable tpA atReset :=
  ⟨by decide, [], by simp, rfl⟩
theorem witness_ConfigurationIsNeverWritten : step atMark = .next atMark := rfl
theorem witness_CoreStatesAreTheMinutesOfTheDial : ReachInv atMark ∧
    ReachInv { atMark with sec := 30, db := true } ∧ wfCfg tpA = true := by decide
theorem witness_CoreHasPeriod720 : wfCfg at55.cfg = true ∧ ReachInv at55 := by decide
theorem witness_WrapsFromReset : wfCfg tpA = true := by decide
theorem witness_MinuteIncrementsSumToTheTable : wfCfg tpA = true := by decide
theorem witness_DutyValuesKeepTheirBounds : wfCfg tpA = true ∧ ReachInv atReset ∧
    (ReachInv atHour ∧ atHour.m_cntr = 59) ∧
    (ReachInv at55 ∧ at55.h_cntr = 11 ∧ 55 ≤ at55.m_cntr.toNat) := by decide
theorem witness_DutyValuesAreMonotone : ReachInv atMark ∧
    (nextState (exec .step atMark)).isSome = true ∧ atMark.m_cntr ≠ 59 ∧
    (ReachInv atHour ∧ (nextState (exec .step atHour)).isSome = true ∧
      ¬(atHour.m_cntr = 59 ∧ atHour.h_cntr = 11)) := by decide +kernel
theorem witness_ChannelsPresentPeriodAndDuty :
    (nextState (step (atHour.withFetchWord 8 7))).isSome = true := by decide +kernel
theorem witness_OutputsChangeOnlyBySteps : wfCfg lastTick.cfg = true ∧ wfState lastTick = true ∧
    Instr.timer ≠ Instr.reset ∧ stepsIn .timer lastTick = 1 ∧ stepsIn .timer atReset = 0 := by decide
theorem witness_BurstShowsSixtyPairs :
    wfCfg atHour.cfg = true ∧ wfState atHour = true ∧ atHour.db = false := by decide
theorem witness_DutyFitsItsPeriod : wfCfg tpA = true ∧ dutyFits tpA = true ∧
    Reachable tpA atReset := ⟨by decide, by decide, [], by simp, rfl⟩
/-- The delivered word runs, and each premise holds with it still to be delivered. -/
theorem witness_EveryStepKeepsDutyFitting : SafeAndFitting atHalf ∧
    SafeAndFitting (atHalf.withFetchWord 8 6) ∧
    (nextState (step (atHalf.withFetchWord 8 6))).isSome = true ∧
    (nextState (exec .advance atHalf)).isSome = true ∧
    wfCfg tpA = true ∧ dutyFits tpA = true := by decide +kernel
/-- The flag raised by each button and lowered by TIMER. -/
theorem witness_TimerIntervalFollowsTheWindow :
    (nextState (exec (.btnm true) atReset)).map tmrFast = some true ∧ tmrFast atReset = false ∧
    (nextState (exec (.btnh true) atReset)).map tmrFast = some true ∧
    (nextState (exec .timer inWindow)).map tmrFast = some false ∧ tmrFast inWindow = true ∧
    (nextState (exec .reset inWindow)).map tmrFast = some false := by decide +kernel
/-- Tables that differ from TP-A outside the entries read: at a mark both entries count. -/
theorem witness_OnlyStepReadsTheTables :
    let mt : Table := #v[640, 0, 0, 0, 0, 0, 0, 0, 0, 0, 0, 0]
    let ht : Table := #v[744, 0, 0, 0, 0, 0, 0, 0, 0, 0, 0, 0]
    wfCfg atMark.cfg = true ∧ wfCfg { atMark.cfg with MT := mt, HT := ht } = true ∧
    wfState atMark = true ∧ mt[atMark.m_index] = atMark.cfg.MT[atMark.m_index] ∧
    atMark.m_tick = 4 ∧ ht[atMark.h_index] = atMark.cfg.HT[atMark.h_index] ∧
    stepsIn .timer atMark = 0 := by decide
theorem witness_StepIgnoresTheDispatcherState : wfCfg atHour.cfg = true ∧ wfState atHour = true ∧
    (59 : BitVec 6).toNat ≤ 59 := by decide
theorem witness_AccessRightsOfTheOperations :
    (nextState (exec .timer atReset)).isSome = true ∧ stepsIn .timer atReset = 0 ∧
    (nextState (exec .step atReset)).isSome = true ∧
    (nextState (exec (.btnh true) atReset)).isSome = true ∧
    (nextState (exec .advance atReset)).isSome = true := by decide +kernel
theorem witness_EveryDeviceTraceHasASchedule :
    (∀ i ∈ [Instr.timer, .btnm false, .btnh true], i.fromDevice = true) ∧
    Instr.timer ∈ deliveredEvents pendingAtReset [.arrive .timer, .choose .timer true] := by decide
theorem witness_AnyPendingSourceMayBeChosen :
    isPending (⟨true, true, false⟩ : Pending) .minuteButton = true := by decide

end Sys2Proof.Tests
end

section
/-!
PROOF. STEP in parts (40_step.md R93, R98, R99, R107): what each sub-step leaves of the two minute
counters and the hour counter, the two boundary tests, and the counters after a whole STEP. Each
lemma about a whole STEP goes through `minuteStep_eq`.
-/

namespace Sys2Proof.Machine

/-! ### Sub-step 1 -/

theorem countMinute_m_tick_toNat {s : State} (hs : wfState s = true) :
    (countMinute s).m_tick.toNat = s.m_tick.toNat + 1 := by
  obtain ⟨-, hm, -⟩ := wfState_iff.1 hs
  rw [countMinute_m_tick, BitVec.toNat_add]
  exact Nat.mod_eq_of_lt (Nat.succ_lt_succ (show s.m_tick.toNat < 7 by omega))

theorem countMinute_m_cntr_toNat {s : State} (hs : wfState s = true) :
    (countMinute s).m_cntr.toNat = s.m_cntr.toNat + 1 := by
  obtain ⟨-, -, -, hm, -⟩ := wfState_iff.1 hs
  rw [countMinute_m_cntr, BitVec.toNat_add]
  exact Nat.mod_eq_of_lt (Nat.succ_lt_succ (show s.m_cntr.toNat < 63 by omega))

/-! ### Sub-steps 3 and 4 leave the boundary counters alone -/

@[simp] theorem subStep3_m_cntr (s : State) : (subStep3 s).m_cntr = s.m_cntr := by
  unfold subStep3; split <;> rfl

@[simp] theorem subStep3_h_cntr (s : State) : (subStep3 s).h_cntr = s.h_cntr := by
  unfold subStep3; split <;> rfl

@[simp] theorem subStep4_m_cntr (s : State) : (subStep4 s).m_cntr = s.m_cntr := by
  unfold subStep4; split <;> rfl

@[simp] theorem subStep4_h_cntr (s : State) : (subStep4 s).h_cntr = s.h_cntr := by
  unfold subStep4; split <;> rfl

/-- What sub-step 6 tests off the hour boundary is the `h_cntr` the STEP began with. -/
theorem subSteps1to4_h_cntr (s : State) :
    (subStep4 (subStep3 (accumulateMinute (countMinute s)))).h_cntr = s.h_cntr := by
  rw [subStep4_h_cntr, subStep3_h_cntr, accumulateMinute_h_cntr, countMinute_h_cntr]

/-- What sub-step 5 tests is the `m_cntr` written by sub-step 1 (40_step.md R98). -/
theorem subSteps1to4_m_cntr_toNat {s : State} (hs : wfState s = true) :
    (subStep4 (subStep3 (accumulateMinute (countMinute s)))).m_cntr.toNat
      = s.m_cntr.toNat + 1 := by
  rw [subStep4_m_cntr, subStep3_m_cntr, accumulateMinute_m_cntr, countMinute_m_cntr_toNat hs]

/-! ### Sub-steps 5 and 6 -/

theorem atHourBoundary_iff {s : State} : atHourBoundary s = true ↔ 60 ≤ s.m_cntr.toNat :=
  decide_eq_true_iff

theorem atHalfDay_iff {s : State} : atHalfDay s = true ↔ 12 ≤ s.h_cntr.toNat :=
  decide_eq_true_iff

/-- An hour boundary reached from an hour of at most 11 does not wrap the 4-bit hour counter. -/
theorem wrapMinuteSide_h_cntr_toNat {u : State} (hu : u.h_cntr.toNat ≤ 11) :
    (wrapMinuteSide u).h_cntr.toNat = u.h_cntr.toNat + 1 := by
  rw [wrapMinuteSide_h_cntr, BitVec.toNat_add]
  exact Nat.mod_eq_of_lt (Nat.succ_lt_succ (show u.h_cntr.toNat < 15 by omega))

/-! ### The counters after a whole STEP -/

theorem minuteStep_m_tick {s : State} (hs : wfState s = true) :
    (minuteStep s).m_tick = if s.m_cntr = 59 ∨ s.m_tick = 4 then 0 else s.m_tick + 1 := by
  by_cases hour : s.m_cntr = 59#6 <;> by_cases mark : s.m_tick = 4#3 <;>
    simp [minuteStep_eq hs, apply_ite State.m_tick, hour, mark]

theorem minuteStep_h_tick {s : State} (hs : wfState s = true) :
    (minuteStep s).h_tick =
      if s.m_cntr = 59 then 0
      else if s.m_tick = 4 then (if s.h_tick = 11 then 0 else s.h_tick + 1)
      else s.h_tick := by
  by_cases hour : s.m_cntr = 59#6 <;> by_cases mark : s.m_tick = 4#3 <;>
    simp [minuteStep_eq hs, apply_ite State.h_tick, hour, mark]

theorem minuteStep_m_cntr {s : State} (hs : wfState s = true) :
    (minuteStep s).m_cntr = if s.m_cntr = 59 then 0 else s.m_cntr + 1 := by
  by_cases hour : s.m_cntr = 59#6 <;>
    simp [minuteStep_eq hs, apply_ite State.m_cntr, hour]

theorem minuteStep_h_cntr {s : State} (hs : wfState s = true) :
    (minuteStep s).h_cntr =
      if s.m_cntr = 59 then (if s.h_cntr = 11 then 0 else s.h_cntr + 1) else s.h_cntr := by
  by_cases hour : s.m_cntr = 59#6 <;>
    simp [minuteStep_eq hs, apply_ite State.h_cntr, hour]

/-- A counter below its bound `n` counts without passing it. -/
theorem toNat_add_one_le_of_ne {w n : Nat} {x y : BitVec w} (hx : x.toNat ≤ n)
    (hy : y.toNat = n) (hne : x ≠ y) : (x + 1).toNat ≤ n := by
  have below : x.toNat ≠ n := fun h => hne (BitVec.eq_of_toNat_eq (h.trans hy.symm))
  have one : (1 : BitVec w).toNat ≤ 1 := Nat.mod_le _ _
  calc (x + 1).toNat ≤ x.toNat + (1 : BitVec w).toNat := by
        rw [BitVec.toNat_add]; exact Nat.mod_le _ _
    _ ≤ n := by omega

/-- STEP keeps `WF` (10_state.md R35): every counter restarts at its bound. -/
theorem wfState_minuteStep {s : State} (hs : wfState s = true) :
    wfState (minuteStep s) = true := by
  obtain ⟨hsec, hmt, hht, hmc, hhc⟩ := wfState_iff.1 hs
  rw [wfState_iff, minuteStep_sec, minuteStep_m_tick hs, minuteStep_h_tick hs,
    minuteStep_m_cntr hs, minuteStep_h_cntr hs]
  refine ⟨hsec, ?_, ?_, ?_, ?_⟩
  · split_ifs with h
    · exact Nat.zero_le _
    · exact toNat_add_one_le_of_ne hmt rfl (not_or.1 h).2
  · split_ifs with _ _ h
    · exact Nat.zero_le _
    · exact Nat.zero_le _
    · exact toNat_add_one_le_of_ne hht rfl h
    · exact hht
  · split_ifs with h
    · exact Nat.zero_le _
    · exact toNat_add_one_le_of_ne hmc rfl h
  · split_ifs with _ h
    · exact Nat.zero_le _
    · exact toNat_add_one_le_of_ne hhc rfl h
    · exact hhc

theorem wfState_minuteSteps {s : State} (hs : wfState s = true) (n : Nat) :
    wfState (minuteSteps n s) = true := by
  induction n with
  | zero => exact hs
  | succ n ih =>
    rw [minuteSteps_succ]
    exact wfState_minuteStep ih

/-- A run of STEP events repeats the minute-step, with no refusal on the way. -/
theorem performAll_replicate_step (n : Nat) {s : State} (hc : wfCfg s.cfg = true)
    (hs : wfState s = true) :
    performAll (List.replicate n .step) s = .next (minuteSteps n s) := by
  induction n generalizing s with
  | zero => rfl
  | succ n ih =>
    rw [List.replicate_succ, performAll, exec_step, perform_next hc hs]
    exact ih (by rwa [minuteStep_cfg]) (wfState_minuteStep hs)

/-! ### The updates a STEP performs, off the hour boundary -/

theorem minuteStep_withinSegment {s : State} (hs : wfState s = true) (hour : s.m_cntr ≠ 59)
    (mark : s.m_tick ≠ 4) : minuteStep s = showOutputs (accumulateMinute (countMinute s)) := by
  rw [minuteStep_eq hs]
  simp only [hour, mark, false_and, if_false]

theorem minuteStep_atMark {s : State} (hs : wfState s = true) (hour : s.m_cntr ≠ 59)
    (mark : s.m_tick = 4) (noCarry : s.h_tick ≠ 11) :
    minuteStep s = showOutputs (accumulateHour (carryIntoHourTick (advanceMinuteIndex
      (accumulateMinute (countMinute s))))) := by
  rw [minuteStep_eq hs]
  simp only [hour, mark, noCarry, false_and, and_false, if_true, if_false]

end Sys2Proof.Machine
end

section
/-!
PROOF. The statements on STEP's counting, its two boundaries and the worked example: O10, O11, O12
and O15.
-/

namespace Sys2Proof.Proofs

open Sys2Proof.Machine

/-- Settles O10. -/
theorem minuteCountersCountWithoutWrap : Obligations.MinuteCountersCountWithoutWrap := by
  intro s hs
  obtain ⟨-, hTick, -, hCntr, -⟩ := wfState_iff.1 hs
  have tick := countMinute_m_tick_toNat hs
  have cntr := countMinute_m_cntr_toNat hs
  exact ⟨tick, by omega, by omega, cntr, by omega, by omega, rfl⟩

/-- Settles O11: sub-steps 2 to 4 do not write the counter that sub-step 5 tests. -/
theorem hourBoundaryWrapsTheMinuteSide : Obligations.HourBoundaryWrapsTheMinuteSide := by
  refine ⟨fun u => ⟨fun h => subStep5_wrap (atHourBoundary_iff.2 h),
    fun h => subStep5_noWrap (mt atHourBoundary_iff.1 (Nat.not_le.2 h))⟩, fun s hs => ?_⟩
  intro u
  obtain ⟨-, -, -, hCntr, hHour⟩ := wfState_iff.1 hs
  have counted : u.m_cntr.toNat = s.m_cntr.toNat + 1 := subSteps1to4_m_cntr_toNat hs
  have hourKept : u.h_cntr = s.h_cntr := subSteps1to4_h_cntr s
  have reached : u.m_cntr = 60 ↔ u.m_cntr.toNat = 60 := BitVec.toNat_inj.symm
  have start : s.m_cntr = 59 ↔ s.m_cntr.toNat = 59 := BitVec.toNat_inj.symm
  rw [reached, start]
  refine ⟨by omega, by omega, fun h => ?_⟩
  have wrap : subStep5 u = wrapMinuteSide u := subStep5_wrap (atHourBoundary_iff.2 (by omega))
  have hour : (subStep5 u).h_cntr.toNat = s.h_cntr.toNat + 1 := by
    rw [wrap, wrapMinuteSide_h_cntr_toNat (by rwa [hourKept]), hourKept]
  exact ⟨hour, by omega, by omega⟩

/-- Settles O12: off the hour boundary `h_cntr` still has its `WF` value, at most 11. -/
theorem halfDayBoundaryWrapsTheHourSide : Obligations.HalfDayBoundaryWrapsTheHourSide := by
  refine ⟨fun v => ⟨fun h => subStep6_wrap (atHalfDay_iff.2 h),
    fun h => subStep6_noWrap (mt atHalfDay_iff.1 (Nat.not_le.2 h))⟩, fun s hs => ?_⟩
  intro u v
  obtain ⟨-, -, -, -, hHour⟩ := wfState_iff.1 hs
  have hourKept : u.h_cntr = s.h_cntr := subSteps1to4_h_cntr s
  rw [← hourKept] at hHour
  by_cases boundary : 60 ≤ u.m_cntr.toNat
  · have wrap : v = wrapMinuteSide u := subStep5_wrap (atHourBoundary_iff.2 boundary)
    have hour : v.h_cntr.toNat = u.h_cntr.toNat + 1 := by
      rw [wrap, wrapMinuteSide_h_cntr_toNat hHour]
    have reached : v.h_cntr = 12 ↔ v.h_cntr.toNat = 12 := BitVec.toNat_inj.symm
    have start : u.h_cntr = 11 ↔ u.h_cntr.toNat = 11 := BitVec.toNat_inj.symm
    rw [reached, start]
    refine ⟨by omega, fun h => ⟨by omega, ?_, ?_⟩⟩
    · rw [wrap, wrapMinuteSide_m_index]
    · rw [wrap, wrapMinuteSide_m_tick]
  · have kept : v = u := subStep5_noWrap (mt atHourBoundary_iff.1 boundary)
    have below : ¬12 ≤ v.h_cntr.toNat := by rw [kept]; omega
    exact ⟨⟨fun h => absurd h below, fun h => absurd h.1 boundary⟩, fun h => absurd h below⟩

/-! ### The worked example -/

/-- The state `k` minute-steps after power-on, for `k` up to 4: only the minute side has moved. -/
def inFirstSegment (c : Cfg) (k : Nat) (shown : List DutyPair) : State :=
  { State.powerOn c with
    m_on := c.MZ + BitVec.ofNat 16 k * divConst c.MT[0] 5
    m_tick := BitVec.ofNat 3 k
    m_cntr := BitVec.ofNat 6 k
    history := shown }

theorem powerOn_eq_inFirstSegment (c : Cfg) :
    State.powerOn c = inFirstSegment c 0 [⟨c.MZ, c.HZ⟩] := by
  simp [inFirstSegment, State.powerOn]

theorem wfState_inFirstSegment (c : Cfg) {k : Nat} (hk : k ≤ 4) (shown : List DutyPair) :
    wfState (inFirstSegment c k shown) = true := by
  rw [wfState_iff]
  simp only [inFirstSegment, State.powerOn, BitVec.toNat_ofNat, BitVec.ofNat_eq_ofNat]
  omega

theorem wfState_powerOn (c : Cfg) : wfState (State.powerOn c) = true := by
  rw [powerOn_eq_inFirstSegment]
  exact wfState_inFirstSegment c (Nat.zero_le 4) _

theorem inFirstSegment_m_cntr_ne (c : Cfg) {k : Nat} (hk : k ≤ 4) (shown : List DutyPair) :
    (inFirstSegment c k shown).m_cntr ≠ 59 := by
  intro h
  have := congrArg BitVec.toNat h
  simp only [inFirstSegment, BitVec.toNat_ofNat, BitVec.ofNat_eq_ofNat] at this
  omega

theorem inFirstSegment_m_tick_ne (c : Cfg) {k : Nat} (hk : k < 4) (shown : List DutyPair) :
    (inFirstSegment c k shown).m_tick ≠ 4 := by
  intro h
  have := congrArg BitVec.toNat h
  simp only [inFirstSegment, BitVec.toNat_ofNat, BitVec.ofNat_eq_ofNat] at this
  omega

theorem minuteStep_inFirstSegment (c : Cfg) {k : Nat} (hk : k < 4) (shown : List DutyPair) :
    ∃ shown', minuteStep (inFirstSegment c k shown) = inFirstSegment c (k + 1) shown' := by
  refine ⟨(minuteStep (inFirstSegment c k shown)).history, ?_⟩
  rw [minuteStep_withinSegment (wfState_inFirstSegment c hk.le shown)
    (inFirstSegment_m_cntr_ne c hk.le shown) (inFirstSegment_m_tick_ne c hk shown)]
  simp [inFirstSegment, showOutputs, accumulateMinute, countMinute, State.powerOn, BitVec.ofNat_add,
    add16, minuteIncrement, lutRead, segSteps, BitVec.add_mul, add_assoc]

theorem minuteSteps_powerOn (c : Cfg) {k : Nat} (hk : k ≤ 4) :
    ∃ shown, minuteSteps k (State.powerOn c) = inFirstSegment c k shown := by
  induction k with
  | zero => exact ⟨_, powerOn_eq_inFirstSegment c⟩
  | succ k ih =>
    obtain ⟨shown, h⟩ := ih (by omega)
    rw [minuteSteps_succ, h]
    exact minuteStep_inFirstSegment c hk shown

/-- Settles O15: four minute-steps within the first segment, then the one that ends it. -/
theorem workedExampleOfTheScenario : Obligations.WorkedExampleOfTheScenario := by
  intro c hc hMZ hHZ hMT hHT
  have wf := wfState_powerOn c
  obtain ⟨shown₁, first⟩ := minuteSteps_powerOn c (k := 1) (by decide)
  obtain ⟨shown₄, fourth⟩ := minuteSteps_powerOn c (k := 4) (by decide)
  have fifth := minuteStep_atMark (wfState_inFirstSegment c le_rfl shown₄)
    (inFirstSegment_m_cntr_ne c le_rfl shown₄) rfl (by simp [inFirstSegment, State.powerOn])
  rw [← fourth, ← minuteSteps_succ] at fifth
  refine ⟨minuteSteps 1 (State.powerOn c), minuteSteps 4 (minuteSteps 1 (State.powerOn c)),
    performAll_replicate_step 1 hc wf,
    performAll_replicate_step 4 (by rwa [minuteSteps_cfg]) (wfState_minuteSteps wf 1), ?_, ?_⟩
  · rw [first]
    simp [inFirstSegment, hMZ, hMT, divConst]
  · rw [← minuteSteps_add, fifth, fourth]
    simp [inFirstSegment, State.powerOn, hMZ, hMT, hHZ, hHT, divConst, add16, minuteIncrement,
      hourIncrement, lutRead, segSteps, nseg, nextIndex]

end Sys2Proof.Proofs
end

section
/-!
PROOF. The dispatcher's button presses (41_dispatch.md R124, R126): when a press acts and what it
leaves. STEP commutes with writing `sec` and `db`, since each sub-step tests and writes core
registers only.
-/

namespace Sys2Proof.Machine

/-! ### The words of the two buttons -/

theorem decode_btnm_word (on : Bool) : decode (eventWord on 0b01) = .ok (.btnm on) := by
  cases on <;> rfl

theorem decode_btnh_word (on : Bool) : decode (eventWord on 0b10) = .ok (.btnh on) := by
  cases on <;> rfl

/-! ### A button event that acts, and one that is dropped -/

section Press

variable {s : State} {on : Bool}

theorem exec_btnm_acts (hc : wfCfg s.cfg = true) (hs : wfState s = true)
    (acts : s.db = false ∧ on = true) :
    exec (.btnm on) s = .next (openWindow (minuteStep (clearSeconds s))) := by
  rw [exec_btnm, perform_next hc hs, minuteButton_eq, if_pos acts]

theorem exec_btnm_dropped (hc : wfCfg s.cfg = true) (hs : wfState s = true)
    (dropped : ¬(s.db = false ∧ on = true)) : exec (.btnm on) s = .next s := by
  rw [exec_btnm, perform_next hc hs, minuteButton_eq, if_neg dropped]

theorem exec_btnh_acts (hc : wfCfg s.cfg = true) (hs : wfState s = true)
    (acts : s.db = false ∧ on = true) :
    exec (.btnh on) s = .next (openWindow (minuteSteps burstSteps s)) := by
  rw [exec_btnh, perform_next hc hs, hourButton_eq, if_pos acts]

theorem exec_btnh_dropped (hc : wfCfg s.cfg = true) (hs : wfState s = true)
    (dropped : ¬(s.db = false ∧ on = true)) : exec (.btnh on) s = .next s := by
  rw [exec_btnh, perform_next hc hs, hourButton_eq, if_neg dropped]

end Press

/-! ### The dispatcher's registers beside STEP -/

/-- `s` with the dispatcher's two registers replaced. -/
def withDispatcher (x : BitVec 6) (b : Bool) (s : State) : State := { s with sec := x, db := b }

section Dispatcher

variable (x : BitVec 6) (b : Bool) (s : State)

theorem clearSeconds_eq_withDispatcher : clearSeconds s = withDispatcher 0 s.db s := rfl

theorem openWindow_withDispatcher :
    openWindow (withDispatcher x b s) = withDispatcher x true s := rfl

theorem wfState_withDispatcher {x : BitVec 6} {s : State} (hx : x.toNat ≤ 59)
    (hs : wfState s = true) : wfState (withDispatcher x b s) = true := by
  obtain ⟨-, core⟩ := wfState_iff.1 hs
  exact wfState_iff.2 ⟨hx, core⟩

theorem subStep3_withDispatcher :
    subStep3 (withDispatcher x b s) = withDispatcher x b (subStep3 s) := by
  unfold subStep3
  rw [apply_ite (withDispatcher x b)]
  rfl

theorem subStep4_withDispatcher :
    subStep4 (withDispatcher x b s) = withDispatcher x b (subStep4 s) := by
  unfold subStep4
  rw [apply_ite (withDispatcher x b)]
  rfl

theorem subStep5_withDispatcher :
    subStep5 (withDispatcher x b s) = withDispatcher x b (subStep5 s) := by
  unfold subStep5
  rw [apply_ite (withDispatcher x b)]
  rfl

theorem subStep6_withDispatcher :
    subStep6 (withDispatcher x b s) = withDispatcher x b (subStep6 s) := by
  unfold subStep6
  rw [apply_ite (withDispatcher x b)]
  rfl

/-- STEP neither reads nor writes `sec` and `db` (40_step.md R90). -/
theorem minuteStep_withDispatcher :
    minuteStep (withDispatcher x b s) = withDispatcher x b (minuteStep s) := by
  have counted : accumulateMinute (countMinute (withDispatcher x b s)) =
      withDispatcher x b (accumulateMinute (countMinute s)) := rfl
  rw [minuteStep, counted, subStep3_withDispatcher, subStep4_withDispatcher,
    subStep5_withDispatcher, subStep6_withDispatcher]
  rfl

theorem minuteSteps_withDispatcher (n : Nat) :
    minuteSteps n (withDispatcher x b s) = withDispatcher x b (minuteSteps n s) := by
  induction n with
  | zero => rfl
  | succ n ih => rw [minuteSteps_succ, minuteSteps_succ, ih, minuteStep_withDispatcher]

end Dispatcher

theorem wfState_clearSeconds {s : State} (hs : wfState s = true) :
    wfState (clearSeconds s) = true := by
  rw [clearSeconds_eq_withDispatcher]
  exact wfState_withDispatcher s.db (Nat.zero_le 59) hs

/-- What an hour press that acts leaves when the seconds are replaced before it. -/
theorem exec_btnh_acts_withDispatcher {s : State} {on : Bool} {x : BitVec 6}
    (hc : wfCfg s.cfg = true) (hs : wfState s = true) (hx : x.toNat ≤ 59)
    (acts : s.db = false ∧ on = true) :
    exec (.btnh on) (withDispatcher x s.db s) =
      .next (withDispatcher x true (minuteSteps burstSteps s)) := by
  have wf := wfState_withDispatcher s.db hx hs
  rw [exec_btnh_acts (s := withDispatcher x s.db s) hc wf acts, minuteSteps_withDispatcher,
    openWindow_withDispatcher]

end Sys2Proof.Machine
end

section
/-!
PROOF. The statements on ADVANCE and the two buttons: O16, O18 and O19.
-/

namespace Sys2Proof.Proofs

open Sys2Proof.Machine

/-- Settles O16. -/
theorem advanceStepsThenClearsSeconds : Obligations.AdvanceStepsThenClearsSeconds := by
  refine ⟨rfl, fun s hc hs => ⟨minuteStep s, ?_, minuteStep_db s, ?_⟩⟩
  · rw [exec_step, perform_next hc hs]
  · rw [exec_advance, perform_next hc hs]
    rfl

/-- Settles O18. -/
theorem minuteButtonEventResult : Obligations.MinuteButtonEventResult := by
  refine ⟨decode_btnm_word true, decode_btnm_word false, fun s on hc hs => ⟨fun hdb hon => ?_,
    exec_btnm_dropped hc hs⟩⟩
  have stepped : exec .step (clearSeconds s) = .next (minuteStep (clearSeconds s)) :=
    perform_next hc (wfState_clearSeconds hs)
  exact ⟨minuteStep (clearSeconds s), stepped, exec_btnm_acts hc hs ⟨hdb, hon⟩⟩

/-- Settles O19: the burst runs the same from every `sec`, because STEP commutes with writing it. -/
theorem hourButtonEventResult : Obligations.HourButtonEventResult := by
  refine ⟨decode_btnh_word true, decode_btnh_word false, fun s on hc hs => ⟨fun hdb hon => ?_,
    exec_btnh_dropped hc hs⟩⟩
  refine ⟨minuteSteps burstSteps s, performAll_replicate_step burstSteps hc hs,
    minuteSteps_sec burstSteps s, exec_btnh_acts hc hs ⟨hdb, hon⟩, fun x hx => ?_⟩
  exact exec_btnh_acts_withDispatcher hc hs hx ⟨hdb, hon⟩

end Sys2Proof.Proofs
end

section
/-!
PROOF. The PWM channels (42_pwm_output.md R140): a channel's period is a constant of the
configuration, which no operation writes (00_scope.md R6), so no step changes it.
-/

namespace Sys2Proof.Machine

/-! ### The dispatcher's effects keep the configuration -/

@[simp] theorem advanceOneMinute_cfg (s : State) : (advanceOneMinute s).cfg = s.cfg := by
  rw [advanceOneMinute, clearSeconds_cfg, minuteStep_cfg]

@[simp] theorem timerSignal_cfg (s : State) : (timerSignal s).cfg = s.cfg := by
  unfold timerSignal
  split_ifs
  · exact closeWindow_cfg s
  · rw [advanceOneMinute_cfg, countSecond_cfg]
  · exact countSecond_cfg s

@[simp] theorem minuteButton_cfg (on : Bool) (s : State) : (minuteButton on s).cfg = s.cfg := by
  rw [minuteButton_eq]
  split_ifs
  · rw [openWindow_cfg, minuteStep_cfg, clearSeconds_cfg]
  · rfl

@[simp] theorem hourButton_cfg (on : Bool) (s : State) : (hourButton on s).cfg = s.cfg := by
  rw [hourButton_eq]
  split_ifs
  · rw [openWindow_cfg, minuteSteps_cfg]
  · rfl

/-! ### Every operation and every step keeps the configuration -/

theorem perform_keeps_cfg {f : State → State} (keeps : ∀ s, (f s).cfg = s.cfg) {s t : State}
    (h : perform f s = .next t) : t.cfg = s.cfg := by
  obtain ⟨-, -, rfl⟩ := perform_eq_next.1 h
  exact keeps s

/-- No operation writes the configuration, power-on included (10_state.md R32, R39). -/
theorem exec_keeps_cfg {i : Instr} {s t : State} (h : exec i s = .next t) : t.cfg = s.cfg := by
  cases i with
  | timer => exact perform_keeps_cfg timerSignal_cfg h
  | btnm on => exact perform_keeps_cfg (minuteButton_cfg on) h
  | btnh on => exact perform_keeps_cfg (hourButton_cfg on) h
  | step => exact perform_keeps_cfg minuteStep_cfg h
  | advance => exact perform_keeps_cfg advanceOneMinute_cfg h
  | reset =>
    obtain ⟨-, rfl⟩ := underWFCfg_eq_next.1 h
    exact resetRegisters_cfg s

/-- Consuming a word leaves the configuration to the operation, and idling leaves it as it was. -/
theorem step_keeps_cfg {s t : State} (h : step s = .next t) : t.cfg = s.cfg := by
  obtain ⟨-, -, -, rfl⟩ | ⟨w, rest, i, -, -, performed⟩ := step_eq_next h
  · rfl
  · have kept : t.cfg = { s with events := rest }.cfg := exec_keeps_cfg performed
    exact kept

/-! ### What the channels present -/

@[simp] theorem pwmMinute_period (s : State) : (pwmMinute s).period = s.cfg.MP := rfl
@[simp] theorem pwmHour_period (s : State) : (pwmHour s).period = s.cfg.HP := rfl

end Sys2Proof.Machine
end

section
/-!
PROOF. The statement on the two PWM channels: O38.
-/

namespace Sys2Proof.Proofs

open Sys2Proof.Machine

/-- Settles O38: both periods are fields of the configuration, which every step keeps. -/
theorem channelsPresentPeriodAndDuty : Obligations.ChannelsPresentPeriodAndDuty := by
  refine ⟨fun _ => ⟨rfl, rfl⟩, fun s t h => ?_, rfl, rfl⟩
  have kept : t.cfg = s.cfg := step_keeps_cfg h
  rw [pwmMinute_period, pwmMinute_period, pwmHour_period, pwmHour_period, kept]
  exact ⟨rfl, rfl⟩

end Sys2Proof.Proofs
end

section
/-!
PROOF. The duty values of the invariant (10_state.md R36) over the integers: how they grow with each
minute, how they close at the end of the hour, and how far they reach.
-/

namespace Sys2Proof.Machine

variable {c : Cfg}

/-- A table entry is its quotient, the increment of a minute or an hour sub-tick, taken whole. -/
theorem minute_entry_eq (hc : wfCfg c = true) {n : Nat} (hn : n < 12) :
    5 * (entryAt c.MT n / 5) = entryAt c.MT n :=
  Nat.mul_div_cancel' (Nat.dvd_of_mod_eq_zero ((wfCfg_numbers hc).1 n hn))

theorem hour_entry_eq (hc : wfCfg c = true) {n : Nat} (hn : n < 12) :
    12 * (entryAt c.HT n / 12) = entryAt c.HT n :=
  Nat.mul_div_cancel' (Nat.dvd_of_mod_eq_zero ((wfCfg_numbers hc).2.1 n hn))

/-! ### The minute duty value -/

theorem minuteDuty_zero (c : Cfg) : minuteDuty c 0 = c.MZ.toNat := by simp [minuteDuty]

/-- Each minute adds its increment, at a 5-minute mark too, where five increments make an entry. -/
theorem minuteDuty_succ (hc : wfCfg c = true) {m : Nat} (hm : m < 60) :
    minuteDuty c (m + 1) = minuteDuty c m + entryAt c.MT (m / 5) / 5 := by
  have entry := minute_entry_eq hc (n := m / 5) (by omega)
  by_cases mark : m % 5 = 4
  · have seg : (m + 1) / 5 = m / 5 + 1 := by omega
    have tick : (m + 1) % 5 = 0 := by omega
    rw [minuteDuty, minuteDuty, seg, tick, mark, spanBefore_succ _ (by omega)]
    omega
  · have seg : (m + 1) / 5 = m / 5 := by omega
    have tick : (m + 1) % 5 = m % 5 + 1 := by omega
    rw [minuteDuty, minuteDuty, seg, tick, Nat.succ_mul]
    omega

theorem minuteDuty_sixty (c : Cfg) : minuteDuty c 60 = c.MZ.toNat + tableSum c.MT := by
  simp [minuteDuty, spanBefore_twelve]

theorem minuteDuty_mono (hc : wfCfg c = true) {m n : Nat} (h : m ≤ n) (hn : n ≤ 60) :
    minuteDuty c m ≤ minuteDuty c n := by
  induction n, h using Nat.le_induction with
  | base => exact le_rfl
  | succ n _ ih =>
    rw [minuteDuty_succ hc (by omega)]
    exact (ih (by omega)).trans (Nat.le_add_right _ _)

theorem minuteDuty_le (hc : wfCfg c = true) {m : Nat} (hm : m ≤ 60) :
    minuteDuty c m ≤ c.MZ.toNat + tableSum c.MT :=
  minuteDuty_sixty c ▸ minuteDuty_mono hc hm le_rfl

/-! ### The hour duty value -/

theorem hourDuty_zero (c : Cfg) : hourDuty c 0 0 = c.HZ.toNat := by simp [hourDuty]

/-- Off a 5-minute mark the hour value stands. -/
theorem hourDuty_succ_offMark (c : Cfg) {m : Nat} (h : Nat) (mark : m % 5 ≠ 4) :
    hourDuty c (m + 1) h = hourDuty c m h := by
  have seg : (m + 1) / 5 = m / 5 := by omega
  rw [hourDuty, hourDuty, seg]

/-- At a 5-minute mark the hour value takes its increment. -/
theorem hourDuty_succ_atMark (c : Cfg) {m : Nat} (h : Nat) (mark : m % 5 = 4) :
    hourDuty c (m + 1) h = hourDuty c m h + entryAt c.HT h / 12 := by
  have seg : (m + 1) / 5 = m / 5 + 1 := by omega
  rw [hourDuty, hourDuty, seg, Nat.succ_mul, ← Nat.add_assoc]

/-- Twelve increments make an entry, so the hour's end is the next hour's beginning. -/
theorem hourDuty_sixty (hc : wfCfg c = true) {h : Nat} (hh : h < 12) :
    hourDuty c 60 h = hourDuty c 0 (h + 1) := by
  have entry := hour_entry_eq hc hh
  simp only [hourDuty, spanBefore_succ _ hh, Nat.zero_div, Nat.zero_mul]
  omega

theorem hourDuty_mono_minute (c : Cfg) (h : Nat) {m n : Nat} (hmn : m ≤ n) :
    hourDuty c m h ≤ hourDuty c n h :=
  Nat.add_le_add_left (Nat.mul_le_mul_right _ (Nat.div_le_div_right hmn)) _

theorem hourDuty_mono_hour (c : Cfg) {h k : Nat} (hhk : h ≤ k) (hk : k ≤ 12) :
    hourDuty c 0 h ≤ hourDuty c 0 k := by
  have := spanBefore_mono c.HT hhk hk
  simp only [hourDuty, Nat.zero_div, Nat.zero_mul]
  omega

theorem hourDuty_twelve (c : Cfg) : hourDuty c 0 12 = c.HZ.toNat + tableSum c.HT := by
  simp [hourDuty, spanBefore_twelve]

theorem hourDuty_le (hc : wfCfg c = true) {m h : Nat} (hm : m ≤ 60) (hh : h ≤ 11) :
    hourDuty c m h ≤ c.HZ.toNat + tableSum c.HT :=
  calc hourDuty c m h ≤ hourDuty c 60 h := hourDuty_mono_minute c h hm
    _ = hourDuty c 0 (h + 1) := hourDuty_sixty hc (by omega)
    _ ≤ hourDuty c 0 12 := hourDuty_mono_hour c (by omega) le_rfl
    _ = c.HZ.toNat + tableSum c.HT := hourDuty_twelve c

end Sys2Proof.Machine
end

section
/-!
PROOF. The registers after a whole STEP (40_step.md R92 to R101), from the registers before it: on
every `WF` state each is given by the two boundary conditions and the mark.
-/

namespace Sys2Proof.Machine

/-- Two states are equal when every field is. -/
@[ext] theorem State.ext {s t : State} (sec : s.sec = t.sec) (m_on : s.m_on = t.m_on)
    (h_on : s.h_on = t.h_on) (m_tick : s.m_tick = t.m_tick) (h_tick : s.h_tick = t.h_tick)
    (m_index : s.m_index = t.m_index) (h_index : s.h_index = t.h_index)
    (m_cntr : s.m_cntr = t.m_cntr) (h_cntr : s.h_cntr = t.h_cntr) (db : s.db = t.db)
    (cfg : s.cfg = t.cfg) (history : s.history = t.history) (events : s.events = t.events) :
    s = t := by
  cases s
  cases t
  congr

theorem minuteStep_m_on {s : State} (hs : wfState s = true) :
    (minuteStep s).m_on =
      if s.m_cntr = 59 then s.cfg.MZ else add16 s.m_on (minuteIncrement s) := by
  by_cases hour : s.m_cntr = 59#6 <;>
    simp [minuteStep_eq hs, apply_ite State.m_on, apply_ite State.cfg, hour, minuteIncrement]

theorem minuteStep_h_on {s : State} (hs : wfState s = true) :
    (minuteStep s).h_on =
      if s.m_cntr = 59 ∧ s.h_cntr = 11 then s.cfg.HZ
      else if s.m_tick = 4 then add16 s.h_on (hourIncrement s) else s.h_on := by
  by_cases hour : s.m_cntr = 59#6 <;> by_cases mark : s.m_tick = 4#3 <;>
    simp [minuteStep_eq hs, apply_ite State.h_on, apply_ite State.cfg, hour, mark, hourIncrement]

theorem minuteStep_m_index {s : State} (hs : wfState s = true) :
    (minuteStep s).m_index =
      if s.m_cntr = 59 then 0 else if s.m_tick = 4 then nextIndex s.m_index else s.m_index := by
  by_cases hour : s.m_cntr = 59#6 <;> by_cases mark : s.m_tick = 4#3 <;>
    simp [minuteStep_eq hs, apply_ite State.m_index, hour, mark]

theorem minuteStep_h_index {s : State} (hs : wfState s = true) :
    (minuteStep s).h_index =
      if s.m_cntr = 59 ∧ s.h_cntr = 11 then 0
      else if s.m_tick = 4 ∧ s.h_tick = 11 then nextIndex s.h_index else s.h_index := by
  by_cases hour : s.m_cntr = 59#6 <;> by_cases mark : s.m_tick = 4#3 <;>
    simp [minuteStep_eq hs, apply_ite State.h_index, hour, mark]

end Sys2Proof.Machine
end

section
/-!
PROOF. The reachable-state invariant (10_state.md R36) is kept by STEP, which moves the position on
the dial by one of its 720 minutes. A state of the invariant holds what its position says, so a
claim about many STEPs is one about positions.
-/

namespace Sys2Proof.Machine

/-! ### Where the counters stand after a STEP -/

theorem zero_toNat {w : Nat} : (0 : BitVec w).toNat = 0 := BitVec.toNat_zero

/-- A counter below its width's limit counts without wrapping. -/
theorem toNat_add_one_of_lt {w : Nat} {x : BitVec w} (h : x.toNat + 1 < 2 ^ w) :
    (x + 1).toNat = x.toNat + 1 := by
  have one : (1 : BitVec w).toNat = 1 := Nat.mod_eq_of_lt (lt_of_le_of_lt (Nat.le_add_left _ _) h)
  rw [BitVec.toNat_add, one, Nat.mod_eq_of_lt h]

section Counters

variable {s : State}

theorem m_cntr_eq_last_iff : s.m_cntr = 59 ↔ s.m_cntr.toNat = 59 := BitVec.toNat_inj.symm

theorem h_cntr_eq_last_iff : s.h_cntr = 11 ↔ s.h_cntr.toNat = 11 := BitVec.toNat_inj.symm

theorem minuteStep_m_cntr_toNat (hs : wfState s = true) :
    (minuteStep s).m_cntr.toNat = (s.m_cntr.toNat + 1) % 60 := by
  obtain ⟨-, -, -, hm, -⟩ := wfState_iff.1 hs
  simp only [minuteStep_m_cntr hs, m_cntr_eq_last_iff, apply_ite BitVec.toNat, zero_toNat]
  rw [toNat_add_one_of_lt (by omega)]
  split_ifs <;> omega

theorem minuteStep_h_cntr_toNat (hs : wfState s = true) :
    (minuteStep s).h_cntr.toNat =
      if s.m_cntr.toNat = 59 then (s.h_cntr.toNat + 1) % 12 else s.h_cntr.toNat := by
  obtain ⟨-, -, -, -, hh⟩ := wfState_iff.1 hs
  simp only [minuteStep_h_cntr hs, m_cntr_eq_last_iff, h_cntr_eq_last_iff,
    apply_ite BitVec.toNat, zero_toNat]
  rw [toNat_add_one_of_lt (by omega)]
  split_ifs <;> omega

end Counters

/-! ### What the invariant says of a STEP's conditions and increments -/

section OnInvariant

variable {s : State}

theorem ReachInv.wfState (inv : ReachInv s) : wfState s = true := by
  obtain ⟨hm, hh, hsec, hmt, -, hht, -⟩ := inv
  exact wfState_iff.2 ⟨hsec, by omega, by omega, hm, hh⟩

theorem ReachInv.m_tick_eq_last_iff (inv : ReachInv s) :
    s.m_tick = 4 ↔ s.m_cntr.toNat % 5 = 4 := by
  obtain ⟨-, -, -, hmt, -⟩ := inv
  rw [← hmt]
  exact BitVec.toNat_inj.symm

theorem ReachInv.h_tick_eq_last_iff (inv : ReachInv s) :
    s.h_tick = 11 ↔ s.m_cntr.toNat / 5 = 11 := by
  obtain ⟨-, -, -, -, -, hht, -⟩ := inv
  rw [← hht]
  exact BitVec.toNat_inj.symm

theorem ReachInv.minuteIncrement_toNat (inv : ReachInv s) :
    (minuteIncrement s).toNat = entryAt s.cfg.MT (s.m_cntr.toNat / 5) / 5 := by
  obtain ⟨-, -, -, -, index, -⟩ := inv
  rw [minuteIncrement, divConst_toNat, ← entryAt_index, index]
  rfl

theorem ReachInv.hourIncrement_toNat (inv : ReachInv s) :
    (hourIncrement s).toNat = entryAt s.cfg.HT s.h_cntr.toNat / 12 := by
  obtain ⟨-, -, -, -, -, -, index, -⟩ := inv
  rw [hourIncrement, divConst_toNat, ← entryAt_index, index]
  rfl

end OnInvariant

/-! ### STEP keeps the invariant, register by register -/

theorem add16_toNat {a b : Word} (fits : a.toNat + b.toNat ≤ 65535) :
    (add16 a b).toNat = a.toNat + b.toNat := by
  rw [add16, BitVec.toNat_add]
  exact Nat.mod_eq_of_lt (by omega)

theorem nextIndex_val (i : TableIndex) : (nextIndex i).val = (i.val + 1) % 12 := rfl

section StepOnInvariant

variable {s : State}

theorem minuteStep_m_tick_toNat (inv : ReachInv s) :
    (minuteStep s).m_tick.toNat = (minuteStep s).m_cntr.toNat % 5 := by
  rw [minuteStep_m_cntr_toNat inv.wfState, minuteStep_m_tick inv.wfState]
  obtain ⟨hm, -, -, tick, -⟩ := id inv
  simp only [m_cntr_eq_last_iff, inv.m_tick_eq_last_iff, apply_ite BitVec.toNat, zero_toNat]
  rw [toNat_add_one_of_lt (by omega), tick]
  split_ifs <;> omega

theorem minuteStep_h_tick_toNat (inv : ReachInv s) :
    (minuteStep s).h_tick.toNat = (minuteStep s).m_cntr.toNat / 5 := by
  rw [minuteStep_m_cntr_toNat inv.wfState, minuteStep_h_tick inv.wfState]
  obtain ⟨hm, -, -, -, -, tick, -⟩ := id inv
  simp only [m_cntr_eq_last_iff, inv.m_tick_eq_last_iff, inv.h_tick_eq_last_iff,
    apply_ite BitVec.toNat, zero_toNat]
  rw [toNat_add_one_of_lt (by omega), tick]
  split_ifs <;> omega

theorem minuteStep_m_index_val (inv : ReachInv s) :
    (minuteStep s).m_index.val = (minuteStep s).m_cntr.toNat / 5 := by
  rw [minuteStep_m_cntr_toNat inv.wfState, minuteStep_m_index inv.wfState]
  obtain ⟨hm, -, -, -, index, -⟩ := id inv
  simp only [m_cntr_eq_last_iff, inv.m_tick_eq_last_iff, apply_ite Fin.val, nextIndex_val, index,
    Fin.val_zero]
  split_ifs <;> omega

theorem minuteStep_h_index_val (inv : ReachInv s) :
    (minuteStep s).h_index.val = (minuteStep s).h_cntr.toNat := by
  rw [minuteStep_h_cntr_toNat inv.wfState, minuteStep_h_index inv.wfState]
  obtain ⟨hm, hh, -, -, -, -, index, -⟩ := id inv
  simp only [m_cntr_eq_last_iff, h_cntr_eq_last_iff, inv.m_tick_eq_last_iff,
    inv.h_tick_eq_last_iff, apply_ite Fin.val, nextIndex_val, index, Fin.val_zero]
  split_ifs <;> omega

theorem minuteStep_m_on_toNat (hc : wfCfg s.cfg = true) (inv : ReachInv s) :
    (minuteStep s).m_on.toNat = minuteDuty s.cfg (minuteStep s).m_cntr.toNat := by
  rw [minuteStep_m_cntr_toNat inv.wfState, minuteStep_m_on inv.wfState]
  obtain ⟨hm, -, -, -, -, -, -, duty, -⟩ := id inv
  obtain ⟨-, -, fits, -⟩ := wfCfg_numbers hc
  simp only [m_cntr_eq_last_iff]
  split_ifs with hour
  · rw [hour, minuteDuty_zero]
  · have grown := minuteDuty_succ hc (m := s.m_cntr.toNat) (by omega)
    have bound := minuteDuty_le hc (m := s.m_cntr.toNat + 1) (by omega)
    rw [← duty, ← inv.minuteIncrement_toNat] at grown
    rw [Nat.mod_eq_of_lt (by omega), grown]
    exact add16_toNat (by omega)

theorem minuteStep_h_on_toNat (hc : wfCfg s.cfg = true) (inv : ReachInv s) :
    (minuteStep s).h_on.toNat =
      hourDuty s.cfg (minuteStep s).m_cntr.toNat (minuteStep s).h_cntr.toNat := by
  rw [minuteStep_m_cntr_toNat inv.wfState, minuteStep_h_cntr_toNat inv.wfState,
    minuteStep_h_on inv.wfState]
  obtain ⟨hm, hh, -, -, -, -, -, -, duty⟩ := id inv
  obtain ⟨-, -, -, fits, -⟩ := wfCfg_numbers hc
  simp only [m_cntr_eq_last_iff, h_cntr_eq_last_iff, inv.m_tick_eq_last_iff]
  by_cases mark : s.m_cntr.toNat % 5 = 4
  · have grown := hourDuty_succ_atMark s.cfg s.h_cntr.toNat mark
    have bound := hourDuty_le hc (m := s.m_cntr.toNat + 1) (by omega) hh
    rw [← duty, ← inv.hourIncrement_toNat] at grown
    have sum : (add16 s.h_on (hourIncrement s)).toNat =
        hourDuty s.cfg (s.m_cntr.toNat + 1) s.h_cntr.toNat :=
      grown ▸ add16_toNat (by omega)
    by_cases hour : s.m_cntr.toNat = 59
    · by_cases half : s.h_cntr.toNat = 11
      · simp [hour, half, hourDuty_zero]
      · rw [hour, hourDuty_sixty hc (by omega)] at sum
        simp only [hour, half, and_false, if_false, if_true]
        rw [sum, Nat.mod_eq_of_lt (show s.h_cntr.toNat + 1 < 12 by omega)]
    · rw [Nat.mod_eq_of_lt (show s.m_cntr.toNat + 1 < 60 by omega)]
      simp only [hour, mark, false_and, if_false, if_true, sum]
  · have hour : s.m_cntr.toNat ≠ 59 := by omega
    simp only [hour, mark, false_and, if_false]
    rw [Nat.mod_eq_of_lt (show s.m_cntr.toNat + 1 < 60 by omega), hourDuty_succ_offMark _ _ mark,
      duty]

/-- STEP keeps the invariant (10_state.md R36). -/
theorem reachInv_minuteStep (hc : wfCfg s.cfg = true) (inv : ReachInv s) :
    ReachInv (minuteStep s) := by
  obtain ⟨hsec, -, -, hm, hh⟩ := wfState_iff.1 (wfState_minuteStep inv.wfState)
  rw [ReachInv, minuteStep_cfg]
  exact ⟨hm, hh, hsec, minuteStep_m_tick_toNat inv, minuteStep_m_index_val inv,
    minuteStep_h_tick_toNat inv, minuteStep_h_index_val inv, minuteStep_m_on_toNat hc inv,
    minuteStep_h_on_toNat hc inv⟩

theorem reachInv_minuteSteps (hc : wfCfg s.cfg = true) (inv : ReachInv s) (n : Nat) :
    ReachInv (minuteSteps n s) := by
  induction n with
  | zero => exact inv
  | succ n ih =>
    rw [minuteSteps_succ]
    exact reachInv_minuteStep (by rwa [minuteSteps_cfg]) ih

end StepOnInvariant

/-! ### The position on the dial -/

/-- The minute of the 12-hour dial that the two counters stand at, 0 to 719. -/
def dialMinute (s : State) : Nat := 60 * s.h_cntr.toNat + s.m_cntr.toNat

theorem dialMinute_minuteStep {s : State} (hs : wfState s = true) :
    dialMinute (minuteStep s) = (dialMinute s + 1) % 720 := by
  obtain ⟨-, -, -, hm, hh⟩ := wfState_iff.1 hs
  rw [dialMinute, dialMinute, minuteStep_m_cntr_toNat hs, minuteStep_h_cntr_toNat hs]
  split_ifs <;> omega

theorem dialMinute_minuteSteps {s : State} (hs : wfState s = true) (n : Nat) :
    dialMinute (minuteSteps n s) = (dialMinute s + n) % 720 := by
  induction n with
  | zero =>
    obtain ⟨-, -, -, hm, hh⟩ := wfState_iff.1 hs
    exact (Nat.mod_eq_of_lt (show dialMinute s < 720 by rw [dialMinute]; omega)).symm
  | succ n ih => rw [minuteSteps_succ, dialMinute_minuteStep (wfState_minuteSteps hs n), ih,
      Nat.mod_add_mod, Nat.add_assoc]

theorem m_cntr_toNat_eq_dial {s : State} (hs : wfState s = true) :
    s.m_cntr.toNat = dialMinute s % 60 := by
  obtain ⟨-, -, -, hm, -⟩ := wfState_iff.1 hs
  rw [dialMinute]
  omega

theorem h_cntr_toNat_eq_dial {s : State} (hs : wfState s = true) :
    s.h_cntr.toNat = dialMinute s / 60 := by
  obtain ⟨-, -, -, hm, -⟩ := wfState_iff.1 hs
  rw [dialMinute]
  omega

theorem minuteSteps_m_cntr_toNat {s : State} (hs : wfState s = true) (n : Nat) :
    (minuteSteps n s).m_cntr.toNat = (dialMinute s + n) % 720 % 60 := by
  rw [m_cntr_toNat_eq_dial (wfState_minuteSteps hs n), dialMinute_minuteSteps hs]

theorem minuteSteps_h_cntr_toNat {s : State} (hs : wfState s = true) (n : Nat) :
    (minuteSteps n s).h_cntr.toNat = (dialMinute s + n) % 720 / 60 := by
  rw [h_cntr_toNat_eq_dial (wfState_minuteSteps hs n), dialMinute_minuteSteps hs]

/-- On the invariant the minute counter fixes the registers of the minute side. -/
theorem minuteSide_eq_of_m_cntr {s t : State} (hs : ReachInv s) (ht : ReachInv t)
    (hc : s.cfg = t.cfg) (hm : s.m_cntr.toNat = t.m_cntr.toNat) :
    s.m_cntr = t.m_cntr ∧ s.m_on = t.m_on ∧ s.m_tick = t.m_tick ∧ s.m_index = t.m_index ∧
      s.h_tick = t.h_tick := by
  obtain ⟨-, -, -, tick, index, hourTick, -, duty, -⟩ := hs
  obtain ⟨-, -, -, tick', index', hourTick', -, duty', -⟩ := ht
  rw [hm] at tick index hourTick duty
  rw [hc] at duty
  exact ⟨BitVec.eq_of_toNat_eq hm, BitVec.eq_of_toNat_eq (duty.trans duty'.symm),
    BitVec.eq_of_toNat_eq (tick.trans tick'.symm), Fin.ext (index.trans index'.symm),
    BitVec.eq_of_toNat_eq (hourTick.trans hourTick'.symm)⟩

/-- On the invariant the two counters fix every core register (10_state.md section 6). -/
theorem coreRegs_eq_of_counters {s t : State} (hs : ReachInv s) (ht : ReachInv t)
    (hc : s.cfg = t.cfg) (hm : s.m_cntr.toNat = t.m_cntr.toNat)
    (hh : s.h_cntr.toNat = t.h_cntr.toNat) : coreRegs s = coreRegs t := by
  obtain ⟨cntr, duty, tick, index, hourTick⟩ := minuteSide_eq_of_m_cntr hs ht hc hm
  obtain ⟨-, -, -, -, -, -, hourIndex, -, hourDuty⟩ := hs
  obtain ⟨-, -, -, -, -, -, hourIndex', -, hourDuty'⟩ := ht
  rw [hh] at hourIndex
  rw [hc, hm, hh] at hourDuty
  have hourIndexEq : s.h_index = t.h_index := Fin.ext (hourIndex.trans hourIndex'.symm)
  have hourDutyEq : s.h_on = t.h_on := BitVec.eq_of_toNat_eq (hourDuty.trans hourDuty'.symm)
  have hourCntrEq : s.h_cntr = t.h_cntr := BitVec.eq_of_toNat_eq hh
  simp only [coreRegs, cntr, duty, tick, index, hourTick, hourIndexEq, hourDutyEq, hourCntrEq]

/-- 720 STEPs go once round the dial. -/
theorem coreRegs_minuteSteps_720 {s : State} (hc : wfCfg s.cfg = true) (inv : ReachInv s) :
    coreRegs (minuteSteps 720 s) = coreRegs s := by
  obtain ⟨hm, hh, -⟩ := id inv
  refine coreRegs_eq_of_counters (reachInv_minuteSteps hc inv 720) inv (minuteSteps_cfg 720 s) ?_ ?_
  · rw [minuteSteps_m_cntr_toNat inv.wfState, dialMinute]
    omega
  · rw [minuteSteps_h_cntr_toNat inv.wfState, dialMinute]
    omega

/-- The reset state is at minute 0 of hour 0. -/
theorem reachInv_powerOn (c : Cfg) : ReachInv (State.powerOn c) :=
  ⟨Nat.zero_le _, Nat.zero_le _, Nat.zero_le _, rfl, (Nat.zero_div 5).symm, (Nat.zero_div 5).symm,
    rfl, (minuteDuty_zero c).symm, (hourDuty_zero c).symm⟩

end Sys2Proof.Machine
end

section
/-!
PROOF. Every operation but RESET is some number of STEPs (`stepsIn`) and one write of the
dispatcher's two registers (41_dispatch.md R120 to R129, 40_step.md R92). A claim about all
operations is then one about STEP, about that write, and about RESET.
-/

namespace Sys2Proof.Machine

/-! ### Writes of the dispatcher's registers -/

theorem withDispatcher_self (s : State) : withDispatcher s.sec s.db s = s := rfl

theorem withDispatcher_withDispatcher (x y : BitVec 6) (a b : Bool) (s : State) :
    withDispatcher y b (withDispatcher x a s) = withDispatcher y b s := rfl

theorem countSecond_eq_withDispatcher (s : State) :
    countSecond s = withDispatcher (s.sec + 1) s.db s := rfl

/-! ### The operation as a whole -/

/-- What an operation leaves in `sec`. -/
def secAfter (i : Instr) (s : State) : BitVec 6 :=
  match i with
  | .timer => if s.db = true then s.sec else if s.sec = 59 then 0 else s.sec + 1
  | .btnm on => if s.db = false ∧ on = true then 0 else s.sec
  | .btnh _ => s.sec
  | .step => s.sec
  | .advance => 0
  | .reset => 0

/-- What an operation leaves in `db`. -/
def dbAfter (i : Instr) (s : State) : Bool :=
  match i with
  | .timer => false
  | .btnm on => s.db || on
  | .btnh on => s.db || on
  | .step => s.db
  | .advance => s.db
  | .reset => false

/-- The STEPs of an operation, then its write of `sec` and `db`. -/
def afterOperation (i : Instr) (s : State) : State :=
  withDispatcher (secAfter i s) (dbAfter i s) (minuteSteps (stepsIn i s) s)

theorem stepsIn_timer {s : State} (hc : wfCfg s.cfg = true) :
    stepsIn .timer s = if s.db = false ∧ s.sec = 59 then 1 else 0 := by
  obtain ⟨-, -, -, -, tpm⟩ := wfCfg_numbers hc
  have due : s.sec.toNat + 1 = s.cfg.TPM.toNat ↔ s.sec = 59 := by
    rw [tpm, ← BitVec.toNat_inj]
    exact Nat.succ_inj
  simp only [stepsIn, due]

theorem timerSignal_eq_after {s : State} (hc : wfCfg s.cfg = true) (hs : wfState s = true) :
    timerSignal s = afterOperation .timer s := by
  rw [timerSignal_eq hc hs, afterOperation, stepsIn_timer hc]
  by_cases window : s.db = true
  · simp only [window, secAfter, if_true, Bool.true_eq_false, false_and, if_false]
    rfl
  · rw [Bool.not_eq_true] at window
    by_cases due : s.sec = 59
    · simp only [window, due, secAfter, and_self, if_true, Bool.false_eq_true, if_false]
      rw [advanceOneMinute, clearSeconds_eq_withDispatcher, countSecond_eq_withDispatcher,
        minuteStep_withDispatcher, withDispatcher_withDispatcher]
      exact congrArg (withDispatcher 0 · (minuteStep s)) window
    · simp only [window, due, secAfter, and_false, Bool.false_eq_true, if_false]
      rw [countSecond_eq_withDispatcher, window]
      rfl

/-- A press that is dropped leaves the flag. -/
theorem db_or_of_dropped {db on : Bool} (dropped : ¬(db = false ∧ on = true)) :
    (db || on) = db := by
  revert db on
  decide

theorem minuteButton_eq_after (on : Bool) (s : State) :
    minuteButton on s = afterOperation (.btnm on) s := by
  rw [minuteButton_eq]
  by_cases acts : s.db = false ∧ on = true
  · simp only [afterOperation, secAfter, dbAfter, stepsIn, acts, and_self, if_true,
      Bool.false_or]
    rw [clearSeconds_eq_withDispatcher, minuteStep_withDispatcher, openWindow_withDispatcher]
    rfl
  · simp only [afterOperation, secAfter, dbAfter, stepsIn, acts, if_false, db_or_of_dropped acts]
    rfl

theorem hourButton_eq_after (on : Bool) (s : State) :
    hourButton on s = afterOperation (.btnh on) s := by
  rw [hourButton_eq]
  by_cases acts : s.db = false ∧ on = true
  · simp only [afterOperation, secAfter, dbAfter, stepsIn, acts, and_self, if_true,
      Bool.false_or]
    rw [← minuteSteps_sec 60 s]
    rfl
  · simp only [afterOperation, secAfter, dbAfter, stepsIn, acts, if_false, db_or_of_dropped acts]
    rfl

theorem minuteStep_eq_after (s : State) : minuteStep s = afterOperation .step s := by
  have kept : withDispatcher s.sec s.db (minuteStep s) = minuteStep s := by
    rw [← minuteStep_withDispatcher]
    rfl
  exact kept.symm

theorem advanceOneMinute_eq_after (s : State) : advanceOneMinute s = afterOperation .advance s := by
  rw [advanceOneMinute, clearSeconds_eq_withDispatcher, minuteStep_db]
  rfl

/-- What an operation other than RESET does, under the guard. -/
theorem exec_eq_after {i : Instr} {s : State} (hc : wfCfg s.cfg = true) (hs : wfState s = true)
    (hi : i ≠ .reset) : exec i s = .next (afterOperation i s) := by
  cases i with
  | timer => rw [exec_timer, perform_next hc hs, timerSignal_eq_after hc hs]
  | btnm on => rw [exec_btnm, perform_next hc hs, minuteButton_eq_after]
  | btnh on => rw [exec_btnh, perform_next hc hs, hourButton_eq_after]
  | step => rw [exec_step, perform_next hc hs, minuteStep_eq_after]
  | advance => rw [exec_advance, perform_next hc hs, advanceOneMinute_eq_after]
  | reset => exact absurd rfl hi

theorem exec_reset_next {s : State} (hc : wfCfg s.cfg = true) :
    exec .reset s = .next (resetRegisters s) := underWFCfg_eq_next.2 ⟨hc, rfl⟩

theorem exec_badConfiguration (i : Instr) {s : State} (hc : wfCfg s.cfg ≠ true) :
    exec i s = .refused .badConfiguration := by
  cases i with
  | reset => exact if_neg hc
  | _ => exact perform_badConfiguration hc

theorem exec_stateOutsideWF {i : Instr} {s : State} (hc : wfCfg s.cfg = true)
    (hs : wfState s ≠ true) (hi : i ≠ .reset) : exec i s = .refused .stateOutsideWF := by
  cases i with
  | reset => exact absurd rfl hi
  | _ => exact perform_stateOutsideWF hc hs

/-- All that an operation can answer as a next state. -/
theorem exec_eq_next {i : Instr} {s t : State} (h : exec i s = .next t) :
    wfCfg s.cfg = true ∧
      ((i = .reset ∧ t = resetRegisters s) ∨
        (i ≠ .reset ∧ wfState s = true ∧ t = afterOperation i s)) := by
  by_cases hc : wfCfg s.cfg = true
  · refine ⟨hc, ?_⟩
    by_cases hi : i = .reset
    · subst hi
      rw [exec_reset_next hc] at h
      cases h
      exact .inl ⟨rfl, rfl⟩
    · by_cases hs : wfState s = true
      · rw [exec_eq_after hc hs hi] at h
        cases h
        exact .inr ⟨hi, hs, rfl⟩
      · rw [exec_stateOutsideWF hc hs hi] at h
        cases h
  · rw [exec_badConfiguration i hc] at h
    cases h

/-! ### What an operation leaves in each part of the state -/

section After

variable (i : Instr) (s : State)

@[simp] theorem afterOperation_sec : (afterOperation i s).sec = secAfter i s := rfl

@[simp] theorem afterOperation_db : (afterOperation i s).db = dbAfter i s := rfl

@[simp] theorem afterOperation_cfg : (afterOperation i s).cfg = s.cfg :=
  minuteSteps_cfg (stepsIn i s) s

@[simp] theorem afterOperation_events : (afterOperation i s).events = s.events :=
  minuteSteps_events (stepsIn i s) s

end After

theorem secAfter_le (i : Instr) {s : State} (hs : wfState s = true) :
    (secAfter i s).toNat ≤ 59 := by
  obtain ⟨hsec, -⟩ := wfState_iff.1 hs
  cases i with
  | timer =>
    simp only [secAfter]
    split_ifs with _ due
    · exact hsec
    · exact Nat.zero_le _
    · exact toNat_add_one_le_of_ne hsec rfl due
  | btnm on =>
    simp only [secAfter]
    split_ifs
    · exact Nat.zero_le _
    · exact hsec
  | btnh on => exact hsec
  | step => exact hsec
  | advance => exact Nat.zero_le _
  | reset => exact Nat.zero_le _

theorem wfState_afterOperation (i : Instr) {s : State} (hs : wfState s = true) :
    wfState (afterOperation i s) = true :=
  wfState_withDispatcher _ (secAfter_le i hs) (wfState_minuteSteps hs _)

/-! ### What a run of STEPs shows -/

/-- The states after 1, 2, ..., `n` STEPs. -/
def stepStates (n : Nat) (s : State) : List State :=
  (List.range n).map fun k => minuteSteps (k + 1) s

theorem stepStates_length (n : Nat) (s : State) : (stepStates n s).length = n := by
  simp [stepStates]

theorem stepStates_getElem? {n k : Nat} (h : k < n) (s : State) :
    (stepStates n s)[k]? = some (minuteSteps (k + 1) s) := by
  simp [stepStates, h]

theorem stepStates_succ (n : Nat) (s : State) :
    stepStates (n + 1) s = stepStates n s ++ [minuteSteps (n + 1) s] := by
  simp [stepStates, List.range_succ]

/-- A run of STEPs shows the pair of each state it passes (42_pwm_output.md R142, R144). -/
theorem minuteSteps_history (n : Nat) (s : State) :
    (minuteSteps n s).history = s.history ++ (stepStates n s).map dutyNow := by
  induction n with
  | zero => exact (List.append_nil _).symm
  | succ n ih =>
    rw [minuteSteps_succ, minuteStep_history, ih, stepStates_succ, ← minuteSteps_succ,
      List.map_append, List.append_assoc]
    rfl

end Sys2Proof.Machine
end

section
/-!
PROOF. Safe states, and states that have shown fitting pairs only: kept by STEP, by the writes of
the dispatcher's registers and by RESET, hence by every operation, by every step of the machine and
along every trace.
-/

namespace Sys2Proof.Machine

/-! ### Properties kept by every operation -/

/-- A property that STEP, the dispatcher's writes and RESET keep is kept by every operation. -/
theorem exec_keeps {P : State → Prop}
    (ofStep : ∀ s, P s → P (minuteStep s))
    (ofWrite : ∀ s x b, x.toNat ≤ 59 → P s → P (withDispatcher x b s))
    (ofReset : ∀ s, wfCfg s.cfg = true → P s → P (resetRegisters s))
    {i : Instr} {s t : State} (hs : P s) (h : exec i s = .next t) : P t := by
  have ofSteps : ∀ n, P (minuteSteps n s) := fun n => by
    induction n with
    | zero => exact hs
    | succ n ih =>
      rw [minuteSteps_succ]
      exact ofStep _ ih
  obtain ⟨hc, ⟨-, rfl⟩ | ⟨-, wf, rfl⟩⟩ := exec_eq_next h
  · exact ofReset s hc hs
  · exact ofWrite _ _ _ (secAfter_le i wf) (ofSteps _)

/-- A property that every operation keeps, whatever words stand, is kept by every step. -/
theorem step_keeps {P : State → Prop}
    (ofExec : ∀ i s t, P s → exec i s = .next t → P t)
    (ofDelivery : ∀ s words, P s → P { s with events := words })
    {s t : State} (hs : P s) (h : step s = .next t) : P t := by
  obtain ⟨-, -, -, rfl⟩ | ⟨w, rest, i, -, -, performed⟩ := step_eq_next h
  · exact hs
  · exact ofExec i _ t (ofDelivery s rest hs) performed

/-- A property that every operation keeps holds along every trace. -/
theorem performAll_keeps {P : State → Prop}
    (ofExec : ∀ i s t, P s → exec i s = .next t → P t)
    {is : List Instr} {s t : State} (hs : P s) (h : performAll is s = .next t) : P t := by
  induction is generalizing s with
  | nil =>
    cases h
    exact hs
  | cons i is ih =>
    rw [performAll] at h
    cases he : exec i s with
    | next u =>
      rw [he] at h
      exact ih (ofExec i s u hs he) h
    | fault r => rw [he] at h; cases h
    | refused r => rw [he] at h; cases h

/-! ### Safe states -/

theorem showsItsDuty_minuteStep (s : State) : ShowsItsDuty (minuteStep s) := by
  rw [ShowsItsDuty, minuteStep_history, List.getLast?_concat]

theorem safe_minuteStep {s : State} (h : Safe s) : Safe (minuteStep s) := by
  obtain ⟨hc, inv, -⟩ := h
  exact ⟨by rwa [minuteStep_cfg], reachInv_minuteStep hc inv, showsItsDuty_minuteStep s⟩

theorem safe_withDispatcher {s : State} {x : BitVec 6} (b : Bool) (hx : x.toNat ≤ 59)
    (h : Safe s) : Safe (withDispatcher x b s) := by
  obtain ⟨hc, ⟨hm, hh, -, core⟩, shown⟩ := h
  exact ⟨hc, ⟨hm, hh, hx, core⟩, shown⟩

theorem safe_powerOn {c : Cfg} (hc : wfCfg c = true) : Safe (State.powerOn c) :=
  ⟨hc, reachInv_powerOn c, rfl⟩

/-- RESET keeps the words to come, which safety does not look at. -/
theorem safe_resetRegisters {s : State} (hc : wfCfg s.cfg = true) : Safe (resetRegisters s) :=
  safe_powerOn hc

theorem exec_keeps_safe {i : Instr} {s t : State} (hs : Safe s) (h : exec i s = .next t) :
    Safe t :=
  exec_keeps (P := Safe) (fun _ => safe_minuteStep) (fun _ _ b => safe_withDispatcher b)
    (fun _ hc _ => safe_resetRegisters hc) hs h

/-! ### Pairs within their periods -/

/-- On the invariant a configuration with `DutyFits` keeps the registers within the periods. -/
theorem duty_le_period {s : State} (hc : wfCfg s.cfg = true) (fits : dutyFits s.cfg = true)
    (inv : ReachInv s) : s.m_on ≤ s.cfg.MP ∧ s.h_on ≤ s.cfg.HP := by
  obtain ⟨hm, hh, -, -, -, -, -, mDuty, hDuty⟩ := inv
  simp only [dutyFits, Bool.and_eq_true, decide_eq_true_eq] at fits
  obtain ⟨mFits, hFits⟩ := fits
  have mLe := minuteDuty_le hc (m := s.m_cntr.toNat) (by omega)
  have hLe := hourDuty_le hc (m := s.m_cntr.toNat) (by omega) hh
  rw [BitVec.le_def, BitVec.le_def, mDuty, hDuty]
  exact ⟨mLe.trans mFits, hLe.trans hFits⟩

@[simp] theorem dutyNow_m_on (s : State) : (dutyNow s).m_on = s.m_on := rfl

@[simp] theorem dutyNow_h_on (s : State) : (dutyNow s).h_on = s.h_on := rfl

theorem fitting_minuteStep {s : State} (h : SafeAndFitting s) :
    SafeAndFitting (minuteStep s) := by
  obtain ⟨safe, fits, shown⟩ := h
  have next := safe_minuteStep safe
  obtain ⟨hc, inv, -⟩ := id next
  rw [← minuteStep_cfg s] at fits
  refine ⟨next, fits, fun p hp => ?_⟩
  rw [minuteStep_history, List.mem_append, List.mem_singleton] at hp
  obtain old | rfl := hp
  · rw [minuteStep_cfg]
    exact shown p old
  · rw [dutyNow_m_on, dutyNow_h_on]
    exact duty_le_period hc fits inv

theorem fitting_withDispatcher {s : State} {x : BitVec 6} (b : Bool) (hx : x.toNat ≤ 59)
    (h : SafeAndFitting s) : SafeAndFitting (withDispatcher x b s) := by
  obtain ⟨safe, fitting⟩ := h
  exact ⟨safe_withDispatcher b hx safe, fitting⟩

theorem fitting_powerOn {c : Cfg} (hc : wfCfg c = true) (fits : dutyFits c = true) :
    SafeAndFitting (State.powerOn c) := by
  refine ⟨safe_powerOn hc, fits, fun p hp => ?_⟩
  rw [State.powerOn, List.mem_singleton] at hp
  subst hp
  exact duty_le_period (s := State.powerOn c) hc fits (reachInv_powerOn c)

theorem fitting_resetRegisters {s : State} (hc : wfCfg s.cfg = true)
    (fits : dutyFits s.cfg = true) : SafeAndFitting (resetRegisters s) :=
  fitting_powerOn hc fits

theorem exec_keeps_fitting {i : Instr} {s t : State} (hs : SafeAndFitting s)
    (h : exec i s = .next t) : SafeAndFitting t :=
  exec_keeps (P := SafeAndFitting) (fun _ => fitting_minuteStep)
    (fun _ _ b => fitting_withDispatcher b)
    (fun _ hc ⟨_, fits, _⟩ => fitting_resetRegisters hc fits) hs h

/-! ### Reachable states -/

/-- What holds at reset and is kept by every operation holds of every reachable state. -/
theorem reachable_induction {P : State → Prop} {c : Cfg} {s : State}
    (ofExec : ∀ i s t, P s → exec i s = .next t → P t) (ofPowerOn : P (State.powerOn c))
    (h : Reachable c s) : P s := by
  obtain ⟨is, -, run⟩ := h
  exact performAll_keeps ofExec ofPowerOn run

theorem reachable_cfg {c : Cfg} {s : State} (h : Reachable c s) : s.cfg = c :=
  reachable_induction (P := fun u => u.cfg = c)
    (fun _ _ _ kept performed => (exec_keeps_cfg performed).trans kept) rfl h

end Sys2Proof.Machine
end

section
/-!
PROOF. The invariants of every step and of every reachable state: O29, O30, O31, O41, O49 and, at
reset, O28.
-/

namespace Sys2Proof.Proofs

open Sys2Proof.Machine

/-- Settles O29: STEP moves the invariant to the next minute of the dial, and nothing else writes
what it speaks of. -/
theorem everyStepKeepsSafe : Obligations.EveryStepKeepsSafe :=
  ⟨fun _ _ => step_keeps (P := Safe) (fun _ _ _ => exec_keeps_safe) (fun _ _ h => h),
    fun _ _ _ => exec_keeps_safe⟩

/-- Settles O49: each STEP shows a pair of the invariant, which `DutyFits` bounds. -/
theorem everyStepKeepsDutyFitting : Obligations.EveryStepKeepsDutyFitting :=
  ⟨fun _ _ => step_keeps (P := SafeAndFitting) (fun _ _ _ => exec_keeps_fitting) (fun _ _ h => h),
    fun _ _ _ => exec_keeps_fitting, fun _ => fitting_powerOn⟩

/-- Settles O30. -/
theorem everyReachableStateIsSafe : Obligations.EveryReachableStateIsSafe := fun _ _ hc reach =>
  ⟨reachable_induction (P := Safe) (fun _ _ _ => exec_keeps_safe) (safe_powerOn hc) reach,
    reachable_cfg reach⟩

/-- Settles O31. -/
theorem configurationIsNeverWritten : Obligations.ConfigurationIsNeverWritten :=
  fun _ _ => step_keeps_cfg

/-- Settles O41. -/
theorem dutyFitsItsPeriod : Obligations.DutyFitsItsPeriod := by
  intro c s hc fits reach
  obtain ⟨⟨wf, inv, -⟩, fitsNow, shown⟩ :=
    reachable_induction (P := SafeAndFitting) (fun _ _ _ => exec_keeps_fitting)
      (fitting_powerOn hc fits) reach
  obtain ⟨minute, hour⟩ := duty_le_period wf fitsNow inv
  rw [ShowsFittingDuty, reachable_cfg reach] at shown
  exact ⟨minute, hour, shown⟩

/-- Settles O28. -/
theorem resetStateIsSafe : Obligations.ResetStateIsSafe :=
  ⟨fun _ => safe_powerOn, safe_powerOn (by decide)⟩

end Sys2Proof.Proofs
end

section
/-!
PROOF. STEP as a whole: its reads of the tables (20_memory.md section 2), the clamping form of its
index guard (40_step.md R105), and the bounds and the growth of the duty values it adds up.
-/

namespace Sys2Proof.Machine

/-! ### The two table entries STEP reads -/

/-- `s` under other calibration tables. -/
def withTables (mt ht : Table) (s : State) : State :=
  { s with cfg := { s.cfg with MT := mt, HT := ht } }

section Tables

variable {mt ht : Table} {s : State}

@[simp] theorem withTables_sec : (withTables mt ht s).sec = s.sec := rfl
@[simp] theorem withTables_m_on : (withTables mt ht s).m_on = s.m_on := rfl
@[simp] theorem withTables_h_on : (withTables mt ht s).h_on = s.h_on := rfl
@[simp] theorem withTables_m_tick : (withTables mt ht s).m_tick = s.m_tick := rfl
@[simp] theorem withTables_h_tick : (withTables mt ht s).h_tick = s.h_tick := rfl
@[simp] theorem withTables_m_index : (withTables mt ht s).m_index = s.m_index := rfl
@[simp] theorem withTables_h_index : (withTables mt ht s).h_index = s.h_index := rfl
@[simp] theorem withTables_m_cntr : (withTables mt ht s).m_cntr = s.m_cntr := rfl
@[simp] theorem withTables_h_cntr : (withTables mt ht s).h_cntr = s.h_cntr := rfl
@[simp] theorem withTables_db : (withTables mt ht s).db = s.db := rfl
@[simp] theorem withTables_history : (withTables mt ht s).history = s.history := rfl
@[simp] theorem withTables_events : (withTables mt ht s).events = s.events := rfl
@[simp] theorem withTables_cfg :
    (withTables mt ht s).cfg = { s.cfg with MT := mt, HT := ht } := rfl

theorem minuteIncrement_withTables (minute : mt[s.m_index] = s.cfg.MT[s.m_index]) :
    minuteIncrement (withTables mt ht s) = minuteIncrement s :=
  congrArg (divConst · segSteps) minute

theorem hourIncrement_withTables (hour : ht[s.h_index] = s.cfg.HT[s.h_index]) :
    hourIncrement (withTables mt ht s) = hourIncrement s :=
  congrArg (divConst · nseg) hour

theorem minuteStep_withTables_m_on (hs : wfState s = true)
    (minute : mt[s.m_index] = s.cfg.MT[s.m_index]) :
    (minuteStep (withTables mt ht s)).m_on = (minuteStep s).m_on := by
  have other : wfState (withTables mt ht s) = true := hs
  rw [minuteStep_m_on other, minuteStep_m_on hs, minuteIncrement_withTables minute]
  rfl

theorem minuteStep_withTables_h_on (hs : wfState s = true)
    (hour : s.m_tick = 4 → ht[s.h_index] = s.cfg.HT[s.h_index]) :
    (minuteStep (withTables mt ht s)).h_on = (minuteStep s).h_on := by
  have other : wfState (withTables mt ht s) = true := hs
  rw [minuteStep_h_on other, minuteStep_h_on hs]
  by_cases mark : s.m_tick = 4
  · rw [hourIncrement_withTables (hour mark)]
    rfl
  · have markOther : (withTables mt ht s).m_tick ≠ 4 := mark
    rw [if_neg mark, if_neg markOther]
    rfl

/-- STEP reads `MT[m_index]`, and `HT[h_index]` at a mark, and no other entry. -/
theorem minuteStep_withTables (hs : wfState s = true)
    (minute : mt[s.m_index] = s.cfg.MT[s.m_index])
    (hour : s.m_tick = 4 → ht[s.h_index] = s.cfg.HT[s.h_index]) :
    minuteStep (withTables mt ht s) = withTables mt ht (minuteStep s) := by
  have other : wfState (withTables mt ht s) = true := hs
  have m_on := minuteStep_withTables_m_on (ht := ht) hs minute
  have h_on := minuteStep_withTables_h_on (mt := mt) hs hour
  ext1
  case sec => rw [withTables_sec, minuteStep_sec, minuteStep_sec, withTables_sec]
  case m_on => rw [withTables_m_on, m_on]
  case h_on => rw [withTables_h_on, h_on]
  case m_tick =>
    rw [withTables_m_tick, minuteStep_m_tick other, minuteStep_m_tick hs]
    rfl
  case h_tick =>
    rw [withTables_h_tick, minuteStep_h_tick other, minuteStep_h_tick hs]
    rfl
  case m_index =>
    rw [withTables_m_index, minuteStep_m_index other, minuteStep_m_index hs]
    rfl
  case h_index =>
    rw [withTables_h_index, minuteStep_h_index other, minuteStep_h_index hs]
    rfl
  case m_cntr =>
    rw [withTables_m_cntr, minuteStep_m_cntr other, minuteStep_m_cntr hs]
    rfl
  case h_cntr =>
    rw [withTables_h_cntr, minuteStep_h_cntr other, minuteStep_h_cntr hs]
    rfl
  case db => rw [withTables_db, minuteStep_db, minuteStep_db, withTables_db]
  case cfg => rw [withTables_cfg, minuteStep_cfg, minuteStep_cfg, withTables_cfg]
  case history =>
    rw [withTables_history, minuteStep_history, minuteStep_history s, withTables_history, dutyNow,
      dutyNow, m_on, h_on]
  case events => rw [withTables_events, minuteStep_events, minuteStep_events, withTables_events]

end Tables

/-! ### The clamping index guard -/

section Clamped

variable {s : State}

theorem clampIndex_eq_nextIndex {i : TableIndex} (below : i.val < 11) :
    clampIndex i = nextIndex i := by
  apply Fin.ext
  rw [nextIndex_val]
  exact (Nat.min_eq_left (by omega)).trans (Nat.mod_eq_of_lt (by omega)).symm

theorem minuteCarry_iff : minuteCarry s = true ↔ s.m_tick = 5 := by
  rw [minuteCarry, beq_iff_eq, ← BitVec.toNat_inj]
  rfl

theorem hourCarry_iff : hourCarry s = true ↔ s.h_tick = 12 := by
  rw [hourCarry, beq_iff_eq, ← BitVec.toNat_inj]
  rfl

/-- The two guards of sub-step 3 agree where the minute index is not at the table's end. -/
theorem subStep3Clamped_eq (below : s.m_tick = 5 → s.m_index.val < 11) :
    subStep3Clamped s = subStep3 s := by
  by_cases carry : s.m_tick = 5
  · rw [subStep3Clamped, if_pos carry, subStep3_carry (minuteCarry_iff.2 carry),
      clampIndex_eq_nextIndex (below carry)]
    rfl
  · rw [subStep3Clamped, if_neg carry, subStep3_noCarry (mt minuteCarry_iff.1 carry)]

/-- The two guards of sub-step 4 agree where the hour index is not at the table's end. -/
theorem subStep4Clamped_eq (below : s.h_tick = 12 → s.h_index.val < 11) :
    subStep4Clamped s = subStep4 s := by
  by_cases carry : s.h_tick = 12
  · rw [subStep4Clamped, if_pos carry, subStep4_carry (hourCarry_iff.2 carry),
      clampIndex_eq_nextIndex (below carry)]
    rfl
  · rw [subStep4Clamped, if_neg carry, subStep4_noCarry (mt hourCarry_iff.1 carry)]

/-- Whatever the guard of sub-step 3 wrote into `m_index`, sub-step 5 overwrites. -/
theorem wrapMinuteSide_subStep3Clamped (s : State) :
    wrapMinuteSide (subStep4Clamped (subStep3Clamped s)) =
      wrapMinuteSide (subStep4Clamped (subStep3 s)) := by
  by_cases carry : s.m_tick = 5
  · rw [subStep3Clamped, if_pos carry, subStep3_carry (minuteCarry_iff.2 carry)]
    unfold subStep4Clamped
    rw [apply_ite wrapMinuteSide, apply_ite wrapMinuteSide]
    rfl
  · rw [subStep3Clamped, if_neg carry, subStep3_noCarry (mt minuteCarry_iff.1 carry)]

/-- Whatever the guard of sub-step 4 wrote into `h_index`, sub-step 6 overwrites. -/
theorem wrapHourSide_subStep4Clamped (s : State) :
    wrapHourSide (wrapMinuteSide (subStep4Clamped s)) =
      wrapHourSide (wrapMinuteSide (subStep4 s)) := by
  by_cases carry : s.h_tick = 12
  · rw [subStep4Clamped, if_pos carry, subStep4_carry (hourCarry_iff.2 carry)]
    rfl
  · rw [subStep4Clamped, if_neg carry, subStep4_noCarry (mt hourCarry_iff.1 carry)]

@[simp] theorem subStep3Clamped_m_cntr (s : State) : (subStep3Clamped s).m_cntr = s.m_cntr := by
  unfold subStep3Clamped; split <;> rfl

@[simp] theorem subStep3Clamped_h_cntr (s : State) : (subStep3Clamped s).h_cntr = s.h_cntr := by
  unfold subStep3Clamped; split <;> rfl

@[simp] theorem subStep4Clamped_m_cntr (s : State) : (subStep4Clamped s).m_cntr = s.m_cntr := by
  unfold subStep4Clamped; split <;> rfl

@[simp] theorem subStep4Clamped_h_cntr (s : State) : (subStep4Clamped s).h_cntr = s.h_cntr := by
  unfold subStep4Clamped; split <;> rfl

theorem subStep3_h_index (s : State) : (subStep3 s).h_index = s.h_index := by
  unfold subStep3; split <;> rfl

/-- The minute sub-tick counts to 5 exactly at a 5-minute mark. -/
theorem countMinute_m_tick_eq_five_iff : (countMinute s).m_tick = 5 ↔ s.m_tick = 4 := by
  have carries := minuteTick_carries s.m_tick
  rw [← BitVec.toNat_inj, countMinute_m_tick, BitVec.toNat_add]
  exact carries

/-- On the invariant the hour sub-tick counts to 12 exactly at the end of an hour. -/
theorem ReachInv.h_tick_carries (inv : ReachInv s)
    (carry : (subStep3 (accumulateMinute (countMinute s))).h_tick = 12) : s.m_cntr.toNat = 59 := by
  obtain ⟨hm, -, -, -, -, tick, -⟩ := id inv
  rw [← BitVec.toNat_inj] at carry
  by_cases mark : s.m_tick = 4
  · have tickCarries : minuteCarry (accumulateMinute (countMinute s)) = true :=
      minuteCarry_iff.2 (countMinute_m_tick_eq_five_iff.2 mark)
    rw [subStep3_carry tickCarries] at carry
    have counted : (s.h_tick + 1).toNat = 12 := carry
    rw [toNat_add_one_of_lt (by omega)] at counted
    have last := inv.m_tick_eq_last_iff.1 mark
    omega
  · have noCarry : minuteCarry (accumulateMinute (countMinute s)) ≠ true :=
      mt minuteCarry_iff.1 (mt countMinute_m_tick_eq_five_iff.1 mark)
    rw [subStep3_noCarry noCarry] at carry
    have kept : s.h_tick.toNat = 12 := carry
    omega

/-- The two guards differ at a table's end only, where a boundary overwrites the index. -/
theorem minuteStepClamped_eq (inv : ReachInv s) : minuteStepClamped s = minuteStep s := by
  obtain ⟨hm, hh, -, -, index, -, hourIndex, -⟩ := id inv
  rw [minuteStepClamped, minuteStep]
  refine congrArg showOutputs ?_
  have counted := countMinute_m_cntr_toNat inv.wfState
  by_cases hour : s.m_cntr.toNat = 59
  · have boundary : 60 ≤ (accumulateMinute (countMinute s)).m_cntr.toNat := by
      rw [accumulateMinute_m_cntr]; omega
    rw [subStep5_wrap (atHourBoundary_iff.2 (by simpa using boundary)),
      subStep5_wrap (atHourBoundary_iff.2 (by simpa using boundary)),
      wrapMinuteSide_subStep3Clamped]
    by_cases half : s.h_cntr.toNat = 11
    · have atHalf : 12 ≤ (s.h_cntr + 1).toNat := by
        rw [toNat_add_one_of_lt (by omega)]; omega
      rw [subStep6_wrap (atHalfDay_iff.2 (by simpa using atHalf)),
        subStep6_wrap (atHalfDay_iff.2 (by simpa using atHalf)), wrapHourSide_subStep4Clamped]
    · rw [subStep4Clamped_eq fun _ => ?_]
      rw [subStep3_h_index, accumulateMinute_h_index, countMinute_h_index]
      omega
  · rw [subStep3Clamped_eq fun carry => ?minute, subStep4Clamped_eq fun carry => ?hour]
    case minute =>
      have mark := inv.m_tick_eq_last_iff.1 (countMinute_m_tick_eq_five_iff.1 carry)
      rw [accumulateMinute_m_index, countMinute_m_index]
      omega
    case hour => exact absurd (inv.h_tick_carries carry) hour

end Clamped

/-! ### How far the duty values reach -/

theorem minuteDuty_last {c : Cfg} (hc : wfCfg c = true) :
    minuteDuty c 59 + entryAt c.MT 11 / 5 = c.MZ.toNat + tableSum c.MT := by
  rw [← minuteDuty_sixty, minuteDuty_succ hc (m := 59) (by decide)]

theorem hourDuty_last {c : Cfg} (hc : wfCfg c = true) {m : Nat} (hm : 55 ≤ m)
    (hm' : m ≤ 59) :
    hourDuty c m 11 + entryAt c.HT 11 / 12 = c.HZ.toNat + tableSum c.HT := by
  have seg : hourDuty c m 11 = hourDuty c 59 11 := by
    rw [hourDuty, hourDuty, show m / 5 = 59 / 5 by omega]
  rw [← hourDuty_twelve, ← hourDuty_sixty hc (by decide), seg,
    hourDuty_succ_atMark c (m := 59) 11 (by decide)]

theorem hourDuty_le_last {c : Cfg} (hc : wfCfg c = true) {m h : Nat} (hm : m ≤ 59)
    (hh : h ≤ 11) : hourDuty c m h ≤ hourDuty c 59 11 := by
  by_cases last : h = 11
  · exact last ▸ hourDuty_mono_minute c 11 hm
  · calc hourDuty c m h ≤ hourDuty c 60 h := hourDuty_mono_minute c h (by omega)
      _ = hourDuty c 0 (h + 1) := hourDuty_sixty hc (by omega)
      _ ≤ hourDuty c 0 11 := hourDuty_mono_hour c (by omega) (by decide)
      _ ≤ hourDuty c 59 11 := hourDuty_mono_minute c 11 (by decide)

theorem hourDuty_floor (c : Cfg) (m h : Nat) : c.HZ.toNat ≤ hourDuty c m h := by
  rw [hourDuty]
  omega

theorem minuteDuty_floor (c : Cfg) (m : Nat) : c.MZ.toNat ≤ minuteDuty c m := by
  rw [minuteDuty]
  omega

end Sys2Proof.Machine
end

section
/-!
PROOF. The statements on STEP as a whole: O9, O13, O14, O36, O37 and O44.
-/

namespace Sys2Proof.Proofs

open Sys2Proof.Machine

/-- Settles O9. -/
theorem stepEventResult : Obligations.StepEventResult := by
  intro s hc hs
  rw [exec_step, perform_next hc hs]
  have shown : (minuteStep s).history =
      s.history ++ [⟨(minuteStep s).m_on, (minuteStep s).h_on⟩] := minuteStep_history s
  rw [minuteStep_m_on hs, minuteStep_h_on hs] at shown
  exact congrArg Host.Outcome.next (State.ext (minuteStep_sec s) (minuteStep_m_on hs)
    (minuteStep_h_on hs) (minuteStep_m_tick hs) (minuteStep_h_tick hs) (minuteStep_m_index hs)
    (minuteStep_h_index hs) (minuteStep_m_cntr hs) (minuteStep_h_cntr hs) (minuteStep_db s)
    (minuteStep_cfg s) shown (minuteStep_events s))

/-- Settles O13: STEP keeps the invariant, so the registers after it are those of the next minute of
the dial, and each case is arithmetic on the minute. -/
theorem stepInFourCases : Obligations.StepInFourCases := by
  intro s hc inv m h
  have next := reachInv_minuteStep hc inv
  have minute : (minuteStep s).m_cntr.toNat = (m + 1) % 60 := minuteStep_m_cntr_toNat inv.wfState
  have hour := minuteStep_h_cntr_toNat inv.wfState
  refine ⟨minuteStep s, perform_next hc inv.wfState, next, minuteStep_sec s, minuteStep_db s,
    minuteStep_cfg s, ?within, ?mark, ?hour, ?half⟩
  all_goals
    obtain ⟨hm, hh, -, tick, index, hourTick, hourIndex, duty, hourDuty⟩ := id inv
    obtain ⟨-, -, -, tick', index', hourTick', hourIndex', duty', hourDuty'⟩ := id next
    rw [minuteStep_cfg] at duty' hourDuty'
  case within =>
    intro mark
    rw [if_neg (show s.m_cntr.toNat ≠ 59 by omega)] at hour
    rw [Nat.mod_eq_of_lt (show m + 1 < 60 by omega)] at minute
    rw [minute] at tick' index' hourTick' duty' hourDuty'
    rw [minuteDuty_succ hc (by omega), ← duty] at duty'
    rw [hour, hourDuty_succ_offMark _ _ mark, ← hourDuty] at hourDuty'
    exact ⟨minute, by omega, duty', BitVec.eq_of_toNat_eq hourDuty',
      BitVec.eq_of_toNat_eq (by omega), Fin.ext (by omega), Fin.ext (by omega),
      BitVec.eq_of_toNat_eq hour⟩
  case mark =>
    intro mark notLast
    rw [if_neg notLast] at hour
    rw [Nat.mod_eq_of_lt (show m + 1 < 60 by omega)] at minute
    rw [minute] at tick' index' hourTick' duty' hourDuty'
    rw [minuteDuty_succ hc (by omega), ← duty] at duty'
    rw [hour, hourDuty_succ_atMark _ _ mark, ← hourDuty] at hourDuty'
    have tickZero : (minuteStep s).m_tick.toNat = 0 := by omega
    exact ⟨minute, BitVec.eq_of_toNat_eq tickZero, by omega, by omega, duty', hourDuty',
      Fin.ext (by omega), BitVec.eq_of_toNat_eq hour⟩
  case hour =>
    intro last notHalf
    rw [if_pos last, Nat.mod_eq_of_lt (show h + 1 < 12 by omega)] at hour
    rw [show (m + 1) % 60 = 0 by omega] at minute
    rw [minute] at tick' index' hourTick' duty' hourDuty'
    rw [minuteDuty_zero] at duty'
    have grown := hourDuty_succ_atMark s.cfg h (m := m) (by omega)
    rw [show m + 1 = 60 by omega, hourDuty_sixty hc (by omega), ← hourDuty] at grown
    rw [hour] at hourDuty' hourIndex'
    exact ⟨BitVec.eq_of_toNat_eq minute, BitVec.eq_of_toNat_eq tick', Fin.ext index',
      BitVec.eq_of_toNat_eq hourTick', BitVec.eq_of_toNat_eq duty', hourDuty'.trans grown,
      hourIndex', hour⟩
  case half =>
    intro last lastHour
    refine coreRegs_eq_of_counters next (reachInv_powerOn s.cfg) (minuteStep_cfg s) ?_ ?_
    · rw [minute, last]
      rfl
    · rw [hour, if_pos last, show s.h_cntr.toNat = 11 from lastHour]
      rfl

/-- Settles O14. -/
theorem clampedIndexGuardAgrees : Obligations.ClampedIndexGuardAgrees := by
  intro s hc inv
  rw [minuteStepClamped_eq inv, exec_step, perform_next hc inv.wfState]

/-- Settles O36. -/
theorem dutyValuesKeepTheirBounds : Obligations.DutyValuesKeepTheirBounds := by
  intro s hc inv
  obtain ⟨hm, hh, -, -, -, -, -, duty, hourDuty⟩ := inv
  have minuteTop := minuteDuty_last hc
  have minuteLe := minuteDuty_mono hc hm (by decide)
  have hourTop := hourDuty_last hc (m := 59) (by decide) le_rfl
  have hourLe := hourDuty_le_last hc hm hh
  rw [BitVec.le_def, BitVec.le_def, duty, hourDuty]
  refine ⟨minuteDuty_floor _ _, hourDuty_floor _ _ _, by omega, by omega, fun last => ?_,
    fun lastHour late => ?_⟩
  · rw [m_cntr_eq_last_iff.1 last]
    omega
  · have top := hourDuty_last hc late hm
    rw [h_cntr_eq_last_iff.1 lastHour]
    omega

/-- Settles O37: the next minute of the dial has no smaller a value, but for the wraps. -/
theorem dutyValuesAreMonotone : Obligations.DutyValuesAreMonotone := by
  intro s t inv stepped
  obtain ⟨hc, -, rfl⟩ := perform_eq_next.1 stepped
  have minute := minuteStep_m_cntr_toNat inv.wfState
  have hour := minuteStep_h_cntr_toNat inv.wfState
  have duty' := minuteStep_m_on_toNat hc inv
  have hourDuty' := minuteStep_h_on_toNat hc inv
  obtain ⟨hm, hh, -, -, -, -, -, duty, hourDuty⟩ := id inv
  simp only [ne_eq, m_cntr_eq_last_iff, h_cntr_eq_last_iff, BitVec.le_def]
  rw [duty, hourDuty, duty', hourDuty', minute, hour]
  refine ⟨fun notLast => minuteDuty_mono hc (by omega) (by omega), fun notHalf => ?_⟩
  by_cases last : s.m_cntr.toNat = 59
  · rw [if_pos last, last, Nat.mod_eq_of_lt (show s.h_cntr.toNat + 1 < 12 by omega)]
    exact hourDuty_sixty hc (show s.h_cntr.toNat < 12 by omega) ▸
      hourDuty_mono_minute s.cfg s.h_cntr.toNat (by decide)
  · rw [if_neg last]
    exact hourDuty_mono_minute s.cfg s.h_cntr.toNat (by omega)

/-- Settles O44. -/
theorem stepIgnoresTheDispatcherState : Obligations.StepIgnoresTheDispatcherState := by
  intro s sec db hc hs hsec
  refine ⟨minuteStep s, perform_next hc hs, minuteStep_sec s, minuteStep_db s, ?_⟩
  have wf := wfState_withDispatcher db hsec hs
  have stepped : exec .step (withDispatcher sec db s) =
      .next (minuteStep (withDispatcher sec db s)) := perform_next hc wf
  rw [minuteStep_withDispatcher] at stepped
  exact stepped

end Sys2Proof.Proofs
end

section
/-!
PROOF. TIMER and the presses on `WF` states, alone and one after another (41_dispatch.md R122 to
R126, section 7; 60_exceptions.md section 2).
-/

namespace Sys2Proof.Machine

/-! ### TIMER in its three cases -/

theorem clearSeconds_withDispatcher (x : BitVec 6) (b : Bool) (s : State) :
    clearSeconds (withDispatcher x b s) = withDispatcher 0 b s := rfl

theorem clearSeconds_countSecond (s : State) : clearSeconds (countSecond s) = clearSeconds s := rfl

/-- ADVANCE overwrites the seconds and STEP does not read them. -/
theorem advanceOneMinute_withSeconds (x : BitVec 6) (s : State) :
    advanceOneMinute (withDispatcher x s.db s) = advanceOneMinute s := by
  rw [advanceOneMinute, minuteStep_withDispatcher, clearSeconds_withDispatcher, advanceOneMinute,
    clearSeconds_eq_withDispatcher, minuteStep_db]

theorem closeWindow_openWindow {s : State} (window : s.db = false) :
    closeWindow (openWindow s) = s :=
  calc closeWindow (openWindow s) = withDispatcher s.sec false s := rfl
    _ = s := by rw [← window, withDispatcher_self]

section Timer

variable {s : State}

theorem exec_timer_releases (hc : wfCfg s.cfg = true) (hs : wfState s = true)
    (window : s.db = true) : exec .timer s = .next (closeWindow s) := by
  rw [exec_timer, perform_next hc hs, timerSignal_eq hc hs, if_pos window]

theorem exec_timer_counts (hc : wfCfg s.cfg = true) (hs : wfState s = true)
    (window : s.db = false) (notDue : s.sec ≠ 59) : exec .timer s = .next (countSecond s) := by
  rw [exec_timer, perform_next hc hs, timerSignal_eq hc hs, if_neg (by simp [window]),
    if_neg notDue]

theorem exec_timer_advances (hc : wfCfg s.cfg = true) (hs : wfState s = true)
    (window : s.db = false) (due : s.sec = 59) :
    exec .timer s = .next (advanceOneMinute s) := by
  rw [exec_timer, perform_next hc hs, timerSignal_eq hc hs, if_neg (by simp [window]), if_pos due,
    countSecond_eq_withDispatcher, advanceOneMinute_withSeconds]

end Timer

theorem wfState_openWindow {s : State} (hs : wfState s = true) : wfState (openWindow s) = true := hs

theorem wfState_countSecond {s : State} (hs : wfState s = true) (notDue : s.sec ≠ 59) :
    wfState (countSecond s) = true :=
  wfState_withDispatcher s.db (toNat_add_one_le_of_ne (wfState_iff.1 hs).1 rfl notDue) hs

/-! ### Runs of operations that go on -/

theorem performAll_cons_next {i : Instr} {is : List Instr} {s t : State}
    (h : exec i s = .next t) : performAll (i :: is) s = performAll is t := by
  rw [performAll, h]

theorem performAll_append_next {is js : List Instr} {s t : State}
    (h : performAll is s = .next t) : performAll (is ++ js) s = performAll js t := by
  rw [performAll_append, h]

/-! ### The ticks of a minute -/

theorem ticks_eq_replicate (n : Nat) : ticks n = List.replicate n .timer :=
  List.flatten_replicate_singleton

/-- `s` after `k` counted seconds. -/
def afterSeconds (k : Nat) (s : State) : State :=
  withDispatcher (s.sec + BitVec.ofNat 6 k) s.db s

theorem afterSeconds_zero (s : State) : afterSeconds 0 s = s := by
  rw [afterSeconds, BitVec.add_zero, withDispatcher_self]

theorem afterSeconds_succ (k : Nat) (s : State) :
    afterSeconds (k + 1) s = countSecond (afterSeconds k s) := by
  rw [afterSeconds, BitVec.ofNat_add, ← BitVec.add_assoc]
  rfl

theorem afterSeconds_sec_toNat {k : Nat} {s : State} (hk : k < 60 - s.sec.toNat) :
    (afterSeconds k s).sec.toNat = s.sec.toNat + k := by
  have sum : (afterSeconds k s).sec.toNat = (s.sec.toNat + k % 64) % 64 :=
    (BitVec.toNat_add _ _).trans (by rw [BitVec.toNat_ofNat])
  omega

theorem wfState_afterSeconds {k : Nat} {s : State} (hs : wfState s = true)
    (hk : k < 60 - s.sec.toNat) : wfState (afterSeconds k s) = true := by
  have bound := afterSeconds_sec_toNat hk
  exact wfState_withDispatcher s.db (show (afterSeconds k s).sec.toNat ≤ 59 by omega) hs

/-- Ticks before the minute is due only count. -/
theorem performAll_ticks {s : State} (hc : wfCfg s.cfg = true) (hs : wfState s = true)
    (window : s.db = false) {k : Nat} (hk : k < 60 - s.sec.toNat) :
    performAll (ticks k) s = .next (afterSeconds k s) := by
  rw [ticks_eq_replicate]
  induction k with
  | zero => rw [afterSeconds_zero]; rfl
  | succ k ih =>
    have before : k < 60 - s.sec.toNat := by omega
    have sec := afterSeconds_sec_toNat before
    have notDue : (afterSeconds k s).sec ≠ 59 := fun due => by
      rw [due] at sec
      have : 59 = s.sec.toNat + k := sec
      omega
    rw [List.replicate_succ', performAll_append_next (ih before), afterSeconds_succ]
    exact performAll_cons_next
      (exec_timer_counts (s := afterSeconds k s) hc (wfState_afterSeconds hs before) window notDue)

/-- The tick at which the minute is due performs its one STEP. -/
theorem performAll_ticks_of_minute {s : State} (hc : wfCfg s.cfg = true) (hs : wfState s = true)
    (window : s.db = false) :
    performAll (ticks (60 - s.sec.toNat)) s = .next (advanceOneMinute s) := by
  obtain ⟨hsec, -⟩ := wfState_iff.1 hs
  have before : 59 - s.sec.toNat < 60 - s.sec.toNat := by omega
  have counted := performAll_ticks hc hs window before
  have due : (afterSeconds (59 - s.sec.toNat) s).sec = 59 := by
    apply BitVec.eq_of_toNat_eq
    rw [afterSeconds_sec_toNat before]
    exact Nat.add_sub_cancel' hsec
  rw [ticks_eq_replicate] at counted
  rw [ticks_eq_replicate, show 60 - s.sec.toNat = 59 - s.sec.toNat + 1 by omega,
    List.replicate_succ', performAll_append_next counted]
  have last := exec_timer_advances (s := afterSeconds (59 - s.sec.toNat) s) hc
    (wfState_afterSeconds hs before) window due
  rw [performAll_cons_next last, afterSeconds, advanceOneMinute_withSeconds, performAll]

/-! ### Presses inside the window -/

theorem performAll_dropped {s : State} (hc : wfCfg s.cfg = true) (hs : wfState s = true)
    (window : s.db = true) {presses : List Instr}
    (buttons : ∀ i ∈ presses, ∃ on, i = .btnm on ∨ i = .btnh on) :
    performAll presses s = .next s := by
  have dropped : ∀ on, ¬(s.db = false ∧ on = true) := fun on => by simp [window]
  induction presses with
  | nil => rfl
  | cons i presses ih =>
    have rest := ih fun j hj => buttons j (List.mem_cons_of_mem i hj)
    obtain ⟨on, rfl | rfl⟩ := buttons i List.mem_cons_self
    · rw [performAll_cons_next (exec_btnm_dropped hc hs (dropped on)), rest]
    · rw [performAll_cons_next (exec_btnh_dropped hc hs (dropped on)), rest]

/-! ### Hour presses -/

section Hour

variable {s : State}

/-- A burst is one hour of the dial. -/
theorem minuteSteps_burst_m_cntr (hs : wfState s = true) :
    (minuteSteps burstSteps s).m_cntr.toNat = s.m_cntr.toNat := by
  obtain ⟨-, -, -, hm, -⟩ := wfState_iff.1 hs
  rw [minuteSteps_m_cntr_toNat hs, dialMinute, burstSteps]
  omega

theorem minuteSteps_burst_h_cntr (hs : wfState s = true) :
    (minuteSteps burstSteps s).h_cntr.toNat = (s.h_cntr.toNat + 1) % 12 := by
  obtain ⟨-, -, -, hm, -⟩ := wfState_iff.1 hs
  rw [minuteSteps_h_cntr_toNat hs, dialMinute, burstSteps]
  omega

/-- A press that acts and the TIMER that ends its window leave the burst's 60 STEPs alone. -/
theorem performAll_hourPress (hc : wfCfg s.cfg = true) (hs : wfState s = true)
    (window : s.db = false) :
    performAll [.btnh true, .timer] s = .next (minuteSteps burstSteps s) := by
  have pressed := exec_btnh_acts hc hs ⟨window, rfl⟩
  have hc' : wfCfg (openWindow (minuteSteps burstSteps s)).cfg = true := by
    rwa [openWindow_cfg, minuteSteps_cfg]
  have released := exec_timer_releases hc' (wfState_openWindow (wfState_minuteSteps hs burstSteps))
    (openWindow_db _)
  have closed : (minuteSteps burstSteps s).db = false := (minuteSteps_db burstSteps s).trans window
  rw [performAll_cons_next pressed, performAll_cons_next released,
    closeWindow_openWindow closed, performAll]

theorem performAll_hourPresses (n : Nat) (hc : wfCfg s.cfg = true) (hs : wfState s = true)
    (window : s.db = false) :
    performAll (repTrace n [.btnh true, .timer]) s = .next (minuteSteps (burstSteps * n) s) := by
  induction n generalizing s with
  | zero => rfl
  | succ n ih =>
    rw [repTrace, List.replicate_succ, List.flatten_cons,
      performAll_append_next (performAll_hourPress hc hs window), Nat.mul_succ, Nat.add_comm,
      minuteSteps_add]
    exact ih (by rwa [minuteSteps_cfg]) (wfState_minuteSteps hs burstSteps)
      (by rwa [minuteSteps_db])

end Hour

/-! ### Runs of STEPs from reset -/

theorem dialMinute_powerOn (c : Cfg) : dialMinute (State.powerOn c) = 0 := rfl

section FromReset

variable {c : Cfg}

theorem performAll_steps_powerOn (hc : wfCfg c = true) (n : Nat) :
    performAll (List.replicate n .step) (State.powerOn c) =
      .next (minuteSteps n (State.powerOn c)) :=
  performAll_replicate_step n hc (reachInv_powerOn c).wfState

theorem minuteSteps_powerOn_m_cntr (c : Cfg) (n : Nat) :
    (minuteSteps n (State.powerOn c)).m_cntr.toNat = n % 720 % 60 := by
  rw [minuteSteps_m_cntr_toNat (reachInv_powerOn c).wfState, dialMinute_powerOn, Nat.zero_add]

theorem minuteSteps_powerOn_h_cntr (c : Cfg) (n : Nat) :
    (minuteSteps n (State.powerOn c)).h_cntr.toNat = n % 720 / 60 := by
  rw [minuteSteps_h_cntr_toNat (reachInv_powerOn c).wfState, dialMinute_powerOn, Nat.zero_add]

theorem minuteSteps_powerOn_m_on (hc : wfCfg c = true) (n : Nat) :
    (minuteSteps n (State.powerOn c)).m_on.toNat = minuteDuty c (n % 720 % 60) := by
  obtain ⟨-, -, -, -, -, -, -, duty, -⟩ :=
    reachInv_minuteSteps (s := State.powerOn c) hc (reachInv_powerOn c) n
  rw [duty, minuteSteps_powerOn_m_cntr, minuteSteps_cfg]
  rfl

/-- After whole hours the minute side is as reset left it. -/
theorem minuteSide_wholeHours (hc : wfCfg c = true) {n : Nat} (whole : n % 720 % 60 = 0) :
    ∃ t, performAll (List.replicate n .step) (State.powerOn c) = .next t ∧
      t.m_on = c.MZ ∧ t.m_index = 0 ∧ t.m_tick = 0 ∧ t.m_cntr = 0 := by
  have minute := minuteSteps_powerOn_m_cntr c n
  rw [whole] at minute
  obtain ⟨cntr, duty, tick, index, -⟩ :=
    minuteSide_eq_of_m_cntr (reachInv_minuteSteps (s := State.powerOn c) hc (reachInv_powerOn c) n)
      (reachInv_powerOn c) (minuteSteps_cfg n (State.powerOn c)) minute
  exact ⟨_, performAll_steps_powerOn hc n, duty, index, tick, cntr⟩

end FromReset

end Sys2Proof.Machine
end

section
/-!
PROOF. The statements on TIMER, the presses and the dial: O17, O21 to O26 and O32 to O35.
-/

namespace Sys2Proof.Proofs

open Sys2Proof.Machine

/-- Settles O17. -/
theorem timerEventResult : Obligations.TimerEventResult := fun s hc hs =>
  ⟨exec_timer_releases hc hs, exec_timer_counts hc hs, fun window due =>
    ⟨minuteStep s, perform_next hc hs, exec_timer_advances hc hs window due⟩⟩

/-- Settles O21: the burst is one hour of the dial, and on the invariant the counters fix the
rest. -/
theorem burstMovesExactlyOneHour : Obligations.BurstMovesExactlyOneHour := by
  intro s hc inv window
  have pressed := exec_btnh_acts hc inv.wfState ⟨window, rfl⟩
  have next := reachInv_minuteSteps hc inv burstSteps
  have minute := minuteSteps_burst_m_cntr inv.wfState
  have hour := minuteSteps_burst_h_cntr inv.wfState
  have sec := minuteSteps_sec burstSteps s
  have cfg := minuteSteps_cfg burstSteps s
  have events := minuteSteps_events burstSteps s
  generalize minuteSteps burstSteps s = t at *
  obtain ⟨cntr, duty, tick, index, hourTick⟩ := minuteSide_eq_of_m_cntr next inv cfg minute
  obtain ⟨-, -, -, -, -, -, hourIndex, -, hourDuty⟩ := next
  rw [hour] at hourIndex
  rw [cfg, minute, hour] at hourDuty
  exact ⟨openWindow t, pressed, cntr, hour, duty, tick, index, hourTick, hourIndex, hourDuty, sec,
    rfl, cfg, events⟩

/-- Settles O22. -/
theorem pressesInsideTheWindowAreDropped : Obligations.PressesInsideTheWindowAreDropped := by
  intro s t first presses _ acting buttons pressed
  obtain ⟨hc, ⟨rfl, -⟩ | ⟨-, hs, rfl⟩⟩ := exec_eq_next pressed
  · cases acting <;> contradiction
  · have window : (afterOperation first s).db = true := by
      rw [afterOperation_db]
      obtain rfl | rfl := acting <;> exact Bool.or_true _
    exact performAll_dropped (by rwa [afterOperation_cfg]) (wfState_afterOperation first hs) window
      buttons

/-- Settles O23. -/
theorem simultaneousPressIsNoOp : Obligations.SimultaneousPressIsNoOp := by
  intro s hc hs
  have dropped : ¬(s.db = false ∧ false = true) := fun h => Bool.false_ne_true h.2
  exact ⟨exec_btnm_dropped hc hs dropped, exec_btnh_dropped hc hs dropped⟩

/-- Settles O24. -/
theorem ticksOfAMinuteStepOnce : Obligations.TicksOfAMinuteStepOnce := fun s hc hs window =>
  ⟨fun _ => performAll_ticks hc hs window, minuteStep s, perform_next hc hs,
    performAll_ticks_of_minute hc hs window⟩

/-- Settles O25: the press overwrites the second that the TIMER before it counted. -/
theorem timerAndPressOrdersDiffer : Obligations.TimerAndPressOrdersDiffer := by
  intro s hc hs window notDue
  have pressed := exec_btnm_acts hc hs ⟨window, rfl⟩
  have ticked := exec_timer_counts hc hs window notDue
  have tickedThenPressed := exec_btnm_acts (s := countSecond s) hc
    (wfState_countSecond hs notDue) ⟨window, rfl⟩
  rw [clearSeconds_countSecond] at tickedThenPressed
  have hc' : wfCfg (minuteStep (clearSeconds s)).cfg = true := by
    rwa [minuteStep_cfg, clearSeconds_cfg]
  have hs' := wfState_minuteStep (wfState_clearSeconds hs)
  generalize minuteStep (clearSeconds s) = t at *
  have released := exec_timer_releases (s := openWindow t) hc' (wfState_openWindow hs') rfl
  refine ⟨openWindow t, closeWindow (openWindow t), ?_, ?_, rfl, rfl, rfl⟩
  · rw [performAll_cons_next ticked, performAll_cons_next tickedThenPressed, performAll]
  · rw [performAll_cons_next pressed, performAll_cons_next released, performAll]

/-- Settles O26: twelve bursts are the 720 minutes of the dial. -/
theorem twelveHourPressesReturn : Obligations.TwelveHourPressesReturn := by
  intro s hc inv window
  exact ⟨minuteSteps 720 s, performAll_hourPresses 12 hc inv.wfState window,
    coreRegs_minuteSteps_720 hc inv, minuteSteps_sec 720 s, (minuteSteps_db 720 s).trans window⟩

/-- Settles O32. -/
theorem coreStatesAreTheMinutesOfTheDial : Obligations.CoreStatesAreTheMinutesOfTheDial := by
  refine ⟨fun s t hs ht hc hm hh => coreRegs_eq_of_counters hs ht hc (congrArg _ hm)
    (congrArg _ hh), fun c m h hc hm hh =>
    ⟨minuteSteps (60 * h + m) (State.powerOn c), performAll_steps_powerOn hc _, ?_, ?_⟩⟩
  · rw [minuteSteps_powerOn_m_cntr]
    omega
  · rw [minuteSteps_powerOn_h_cntr]
    omega

/-- Settles O33. -/
theorem coreHasPeriod720 : Obligations.CoreHasPeriod720 := fun s hc inv =>
  ⟨minuteSteps 720 s, performAll_replicate_step 720 hc inv.wfState,
    coreRegs_minuteSteps_720 hc inv, minuteSteps_sec 720 s, minuteSteps_db 720 s⟩

/-- Settles O34: 60 STEPs from reset stand at minute 0 of the dial's hour 1, 720 at its reset. -/
theorem wrapsFromReset : Obligations.WrapsFromReset := by
  intro c hc
  refine ⟨minuteSide_wholeHours hc rfl, ?_⟩
  obtain ⟨t, run, period, -⟩ := coreHasPeriod720 (State.powerOn c) hc (reachInv_powerOn c)
  exact ⟨t, run, congrArg CoreRegs.h_on period, congrArg CoreRegs.h_cntr period⟩

/-- Settles O35. -/
theorem minuteIncrementsSumToTheTable : Obligations.MinuteIncrementsSumToTheTable := by
  intro c hc
  have duty : _ = minuteDuty c 59 := minuteSteps_powerOn_m_on hc 59
  have entry : entryAt c.MT 11 = (c.MT[11]).toNat := entryAt_index c.MT 11
  exact ⟨_, performAll_steps_powerOn hc 59, by rw [duty, ← entry]; exact minuteDuty_last hc⟩

end Sys2Proof.Proofs
end

section
/-!
PROOF. What the operations read and write, and what they show (10_state.md section 3, 20_memory.md
section 2, 42_pwm_output.md): each operation but RESET through `afterOperation`.
-/

namespace Sys2Proof.Machine

/-! ### An operation under other tables -/

section Tables

variable (mt ht : Table) (i : Instr) (s : State)

theorem stepsIn_withTables : stepsIn i (withTables mt ht s) = stepsIn i s := by
  cases i <;> rfl

theorem secAfter_withTables : secAfter i (withTables mt ht s) = secAfter i s := by
  cases i <;> rfl

theorem dbAfter_withTables : dbAfter i (withTables mt ht s) = dbAfter i s := by
  cases i <;> rfl

variable {i s}

theorem afterOperation_without_step (none : stepsIn i s = 0) :
    afterOperation i s = withDispatcher (secAfter i s) (dbAfter i s) s := by
  rw [afterOperation, none, minuteSteps]

theorem afterOperation_withTables (none : stepsIn i s = 0) :
    afterOperation i (withTables mt ht s) = withTables mt ht (afterOperation i s) := by
  have noneOther : stepsIn i (withTables mt ht s) = 0 := (stepsIn_withTables mt ht i s).trans none
  rw [afterOperation_without_step noneOther, afterOperation_without_step none,
    secAfter_withTables, dbAfter_withTables]
  rfl

end Tables

/-! ### The pairs an operation shows -/

theorem stepStates_getLast? {n : Nat} (hn : n ≠ 0) (s : State) :
    (stepStates n s).getLast? = some (minuteSteps n s) := by
  obtain ⟨k, rfl⟩ := Nat.exists_eq_succ_of_ne_zero hn
  rw [stepStates_succ, List.getLast?_concat]

theorem stepStates_map_eq_nil_iff {n : Nat} {s : State} :
    (stepStates n s).map dutyNow = [] ↔ n = 0 := by
  rw [List.map_eq_nil_iff, ← List.length_eq_zero_iff, stepStates_length]

theorem history_isPrefix_minuteSteps (n : Nat) (s : State) :
    s.history <+: (minuteSteps n s).history :=
  ⟨_, (minuteSteps_history n s).symm⟩

end Sys2Proof.Machine
end

section
/-!
PROOF. The statements on all operations at once and on RESET: O7, O8, O27, O39, O40, O42, O43 and
O45.
-/

namespace Sys2Proof.Proofs

open Sys2Proof.Machine

/-- Settles O8. -/
theorem everyOperationCompletes : Obligations.EveryOperationCompletes := by
  intro i s hc hs
  by_cases hi : i = .reset
  · subst hi
    exact ⟨resetRegisters s, exec_reset_next hc, (reachInv_powerOn s.cfg).wfState, rfl, rfl⟩
  · exact ⟨afterOperation i s, exec_eq_after hc hs hi, wfState_afterOperation i hs,
      afterOperation_cfg i s, afterOperation_events i s⟩

/-- Settles O7. -/
theorem inputsTheSpecExcludesAreRefused : Obligations.InputsTheSpecExcludesAreRefused :=
  fun i _ => ⟨fun hc => exec_badConfiguration i (Bool.eq_false_iff.1 hc),
    fun hc hs => exec_stateOutsideWF hc (Bool.eq_false_iff.1 hs)⟩

/-- Settles O27. -/
theorem resetWritesEveryRegister : Obligations.ResetWritesEveryRegister :=
  fun _ => exec_reset_next

/-- Settles O39: the new pairs are those of the states after each of the operation's STEPs. -/
theorem outputsChangeOnlyBySteps : Obligations.OutputsChangeOnlyBySteps := by
  intro i s hc hs hi
  refine ⟨afterOperation i s, (stepStates (stepsIn i s) s).map dutyNow, exec_eq_after hc hs hi,
    minuteSteps_history (stepsIn i s) s, ?_, fun none => ?_, fun some => ?_⟩
  · rw [List.length_map, stepStates_length]
  · rw [afterOperation_without_step (stepStates_map_eq_nil_iff.1 none)]
    rfl
  · rw [List.getLast?_map, stepStates_getLast? (mt stepStates_map_eq_nil_iff.2 some)]
    rfl

/-- Settles O40. -/
theorem burstShowsSixtyPairs : Obligations.BurstShowsSixtyPairs := by
  intro s hc hs window
  exact ⟨openWindow (minuteSteps burstSteps s), stepStates burstSteps s,
    exec_btnh_acts hc hs ⟨window, rfl⟩, stepStates_length burstSteps s,
    fun k hk => ⟨minuteSteps (k + 1) s, stepStates_getElem? hk s,
      performAll_replicate_step (k + 1) hc hs⟩, minuteSteps_history burstSteps s⟩

/-- Settles O42: `tmr_fast` is `db`, which each operation leaves as `dbAfter` says. -/
theorem timerIntervalFollowsTheWindow : Obligations.TimerIntervalFollowsTheWindow := by
  intro i s t h
  obtain ⟨-, ⟨rfl, rfl⟩ | ⟨hi, -, rfl⟩⟩ := exec_eq_next h
  · simp [tmrFast]
  · simp only [tmrFast, afterOperation_db]
    cases i with
    | timer => simp [dbAfter]
    | btnm on => cases on <;> simp [dbAfter]
    | btnh on => cases on <;> simp [dbAfter]
    | step => simp [dbAfter]
    | advance => simp [dbAfter]
    | reset => exact absurd rfl hi

/-- Settles O43. -/
theorem onlyStepReadsTheTables : Obligations.OnlyStepReadsTheTables := by
  refine ⟨fun s mt ht hc hc' hs minute hour => ?_, fun i s mt ht hc hc' hs none => ?_⟩
  · have stepped : exec .step (withTables mt ht s) = .next (minuteStep (withTables mt ht s)) :=
      perform_next hc' hs
    rw [minuteStep_withTables hs minute hour, withTables, withTables, minuteStep_cfg] at stepped
    exact ⟨minuteStep s, perform_next hc hs, stepped⟩
  · by_cases hi : i = .reset
    · subst hi
      exact ⟨resetRegisters s, exec_reset_next hc,
        exec_reset_next (s := withTables mt ht s) hc'⟩
    · have performed := exec_eq_after (s := withTables mt ht s) hc' hs hi
      rw [afterOperation_withTables mt ht none, withTables, withTables, afterOperation_cfg]
        at performed
      exact ⟨afterOperation i s, exec_eq_after hc hs hi, performed⟩

/-- Settles O45. -/
theorem accessRightsOfTheOperations : Obligations.AccessRightsOfTheOperations := by
  intro i s t h
  obtain ⟨-, ⟨rfl, rfl⟩ | ⟨-, -, rfl⟩⟩ := exec_eq_next h
  · exact ⟨fun hi => absurd rfl hi, by simp, by simp, fun hi => absurd rfl hi, rfl, rfl⟩
  · refine ⟨fun _ none => ?_, ?_, ?_, fun _ => history_isPrefix_minuteSteps (stepsIn i s) s,
      afterOperation_cfg i s, afterOperation_events i s⟩
    · rw [afterOperation_without_step none]
      exact ⟨rfl, rfl⟩
    · rintro (rfl | ⟨on, rfl⟩) <;> rw [afterOperation_sec, secAfter]
    · rintro (rfl | rfl) <;> rw [afterOperation_db, dbAfter]

end Sys2Proof.Proofs
end

section
/-!
PROOF. Delivery (30_encoding.md sections 1, 4 and 5): the words and their events, one step of the
machine, and a run over the words of a trace. Operations neither read nor write the words still to
be delivered, so they perform the same whatever words stand.
-/

namespace Sys2Proof.Machine

/-! ### Words and events -/

theorem decode_timer_word : decode (eventWord true 0b00) = .ok .timer := rfl

theorem decode_step_word : decode (eventWord true 0b11) = .ok .step := rfl

/-- Every event decodes from its own word (30_encoding.md R75). -/
theorem decode_encode {i : Instr} (hi : i.wellFormed = true) :
    ∃ w, encode i = some w ∧ decode w = .ok i := by
  cases i with
  | timer => exact ⟨_, rfl, decode_timer_word⟩
  | btnm on => exact ⟨_, rfl, decode_btnm_word on⟩
  | btnh on => exact ⟨_, rfl, decode_btnh_word on⟩
  | step => exact ⟨_, rfl, decode_step_word⟩
  | advance => cases hi
  | reset => cases hi

/-- Every word is reserved or the word of an event. -/
theorem reserved_or_eventWord (w : EventWord) :
    decode w = .error (.reservedEvent w) ∨ w = eventWord true 0b00 ∨
      (∃ on, w = eventWord on 0b01) ∨ (∃ on, w = eventWord on 0b10) ∨
      w = eventWord true 0b11 := by
  revert w
  decide

theorem encode_decode {w : EventWord} {i : Instr} (h : decode w = .ok i) :
    encode i = some w ∧ i.wellFormed = true := by
  obtain reserved | rfl | ⟨on, rfl⟩ | ⟨on, rfl⟩ | rfl := reserved_or_eventWord w
  · rw [reserved] at h
    cases h
  · rw [decode_timer_word] at h
    cases h
    exact ⟨rfl, rfl⟩
  · rw [decode_btnm_word] at h
    cases h
    exact ⟨rfl, rfl⟩
  · rw [decode_btnh_word] at h
    cases h
    exact ⟨rfl, rfl⟩
  · rw [decode_step_word] at h
    cases h
    exact ⟨rfl, rfl⟩

/-! ### One step -/

section Step

variable {s : State} {w : EventWord} {rest : List EventWord}

theorem step_of_word {i : Instr} (words : s.events = w :: rest) (decoded : decode w = .ok i) :
    step s = exec i { s with events := rest } := by
  rw [step, nextEvent_eq_some.2 ⟨rest, words, rfl⟩]
  simp only [decoded]

theorem step_of_reserved (words : s.events = w :: rest)
    (reserved : decode w = .error (.reservedEvent w)) :
    step s = .refused (.reservedEvent w) := by
  rw [step, nextEvent_eq_some.2 ⟨rest, words, rfl⟩]
  simp only [reserved]
  rfl

theorem step_of_no_word (none : s.events = []) : step s = idle s := by
  rw [step, nextEvent, none]

end Step

/-! ### The words still to be delivered, beside the operations -/

/-- `s` with the words `words` still to be delivered. -/
def withEvents (words : List EventWord) (s : State) : State := { s with events := words }

section Events

variable (words : List EventWord) (s : State)

theorem subStep3_withEvents :
    subStep3 (withEvents words s) = withEvents words (subStep3 s) := by
  unfold subStep3
  rw [apply_ite (withEvents words)]
  rfl

theorem subStep4_withEvents :
    subStep4 (withEvents words s) = withEvents words (subStep4 s) := by
  unfold subStep4
  rw [apply_ite (withEvents words)]
  rfl

theorem subStep5_withEvents :
    subStep5 (withEvents words s) = withEvents words (subStep5 s) := by
  unfold subStep5
  rw [apply_ite (withEvents words)]
  rfl

theorem subStep6_withEvents :
    subStep6 (withEvents words s) = withEvents words (subStep6 s) := by
  unfold subStep6
  rw [apply_ite (withEvents words)]
  rfl

theorem showOutputs_withEvents :
    showOutputs (withEvents words s) = withEvents words (showOutputs s) := rfl

theorem minuteStep_withEvents :
    minuteStep (withEvents words s) = withEvents words (minuteStep s) := by
  have counted : accumulateMinute (countMinute (withEvents words s)) =
      withEvents words (accumulateMinute (countMinute s)) := rfl
  rw [minuteStep, counted, subStep3_withEvents, subStep4_withEvents, subStep5_withEvents,
    subStep6_withEvents, showOutputs_withEvents, minuteStep]

theorem minuteSteps_withEvents (n : Nat) :
    minuteSteps n (withEvents words s) = withEvents words (minuteSteps n s) := by
  induction n with
  | zero => rfl
  | succ n ih => rw [minuteSteps_succ, minuteSteps_succ, ih, minuteStep_withEvents]

theorem withDispatcher_withEvents (x : BitVec 6) (b : Bool) :
    withDispatcher x b (withEvents words s) = withEvents words (withDispatcher x b s) := rfl

theorem stepsIn_withEvents (i : Instr) : stepsIn i (withEvents words s) = stepsIn i s := by
  cases i <;> rfl

theorem secAfter_withEvents (i : Instr) : secAfter i (withEvents words s) = secAfter i s := by
  cases i <;> rfl

theorem dbAfter_withEvents (i : Instr) : dbAfter i (withEvents words s) = dbAfter i s := by
  cases i <;> rfl

theorem afterOperation_withEvents (i : Instr) :
    afterOperation i (withEvents words s) = withEvents words (afterOperation i s) := by
  rw [afterOperation, afterOperation, stepsIn_withEvents, secAfter_withEvents,
    dbAfter_withEvents, minuteSteps_withEvents, withDispatcher_withEvents]

end Events

/-- An outcome with another list of words in the state it goes on with. -/
def outcomeWithEvents (words : List EventWord) :
    Host.Outcome State Fault Refusal → Host.Outcome State Fault Refusal
  | .next s => .next (withEvents words s)
  | .fault r => .fault r
  | .refused r => .refused r

/-- An operation performs the same whatever words are still to be delivered. -/
theorem exec_withEvents (words : List EventWord) (i : Instr) (s : State) :
    exec i (withEvents words s) = outcomeWithEvents words (exec i s) := by
  by_cases hc : wfCfg s.cfg = true
  · by_cases hi : i = .reset
    · subst hi
      rw [exec_reset_next hc, exec_reset_next (s := withEvents words s) hc]
      rfl
    · by_cases hs : wfState s = true
      · rw [exec_eq_after hc hs hi, exec_eq_after (s := withEvents words s) hc hs hi,
          afterOperation_withEvents, outcomeWithEvents]
      · rw [exec_stateOutsideWF hc hs hi, exec_stateOutsideWF (s := withEvents words s) hc hs hi,
          outcomeWithEvents]
  · rw [exec_badConfiguration i hc, exec_badConfiguration (s := withEvents words s) i hc,
      outcomeWithEvents]

/-! ### A run over the words of a trace -/

theorem run_succ_next {M : Host.Core} {s t : M.State} (k : Nat) (h : M.step s = .next t) :
    M.run (k + 1) s = M.run k t := by
  rw [Host.Core.run, h]

theorem run_succ_refused {M : Host.Core} {s : M.State} {r : M.Refusal} (k : Nat)
    (h : M.step s = .refused r) : M.run (k + 1) s = .refused r := by
  rw [Host.Core.run, h]

theorem traceWords_cons {i : Instr} {w : EventWord} (word : encode i = some w) (is : List Instr) :
    traceWords (i :: is) = w :: traceWords is := List.filterMap_cons_some word

/-- A step whose next word is that of `i` performs `i` and leaves the words that follow. -/
theorem step_of_trace {i : Instr} (hi : i.wellFormed = true) (is : List Instr) (s : State) :
    step (withTrace s (i :: is)) =
      outcomeWithEvents (traceWords is) (exec i (withEvents [] s)) := by
  obtain ⟨w, word, decoded⟩ := decode_encode hi
  rw [step_of_word (traceWords_cons word is) decoded, ← exec_withEvents]
  rfl

theorem events_of_exec {i : Instr} {s t : State} (h : exec i s = .next t) :
    t.events = s.events := by
  obtain ⟨-, ⟨-, rfl⟩ | ⟨-, -, rfl⟩⟩ := exec_eq_next h
  · rfl
  · exact afterOperation_events i s

theorem withEvents_nil {s : State} (none : s.events = []) : withEvents [] s = s := by
  rw [withEvents, ← none]

/-- A run over the words of a trace is its operations in order (20_memory.md section 5). -/
theorem run_trace {is : List Instr} (events : ∀ i ∈ is, i.wellFormed = true) (s : State) :
    Host.Core.run Sys2Proof.core is.length (withTrace s is) = performAll is (withEvents [] s) := by
  induction is generalizing s with
  | nil => rfl
  | cons i is ih =>
    have stepped := step_of_trace (events i List.mem_cons_self) is s
    rw [List.length_cons, performAll]
    cases performed : exec i (withEvents [] s) with
    | next t =>
      rw [performed] at stepped
      have rest := ih (fun j hj => events j (List.mem_cons_of_mem i hj)) t
      rw [withEvents_nil (events_of_exec performed)] at rest
      exact (run_succ_next (M := core) is.length stepped).trans rest
    | fault r => cases r
    | refused r =>
      rw [performed] at stepped
      exact run_succ_refused (M := core) is.length stepped

end Sys2Proof.Machine
end

section
/-!
PROOF. The statements on words and delivery: O1 to O6 and O20.
-/

namespace Sys2Proof.Proofs

open Sys2Proof.Machine

/-- Settles O1. -/
theorem eventWordsDecodeAsTabulated : Obligations.EventWordsDecodeAsTabulated :=
  ⟨rfl, decode_btnm_word false, decode_btnh_word false, rfl, decode_timer_word,
    decode_btnm_word true, decode_btnh_word true, decode_step_word⟩

/-- Settles O2. -/
theorem encodedEventsDecodeBack : Obligations.EncodedEventsDecodeBack := by
  refine ⟨fun _ => decode_encode, fun i hi => ?_, fun _ _ => encode_decode⟩
  cases i with
  | advance => rfl
  | reset => rfl
  | _ => cases hi

/-- Settles O3. -/
theorem deliveredWordRunsItsOperation : Obligations.DeliveredWordRunsItsOperation := by
  intro s w rest i words decoded
  obtain ⟨-, event⟩ := encode_decode decoded
  exact ⟨event, step_of_word words decoded⟩

/-- Settles O4. -/
theorem reservedWordsAreRefused : Obligations.ReservedWordsAreRefused := by
  rintro s w rest words (rfl | rfl)
  · exact step_of_reserved words rfl
  · exact step_of_reserved words rfl

/-- Settles O5. -/
theorem idleKeepsEverything : Obligations.IdleKeepsEverything := by
  intro s hc hs none
  rw [step_of_no_word none]
  exact idle_eq_next.2 ⟨hc, hs, rfl⟩

/-- Settles O6. -/
theorem traceRunsInDeliveryOrder : Obligations.TraceRunsInDeliveryOrder :=
  fun _ s events => run_trace events s

/-- Settles O20: an event's word is consumed before its operation, which leaves the words after
it. -/
theorem eachEventIsOneCriticalSection : Obligations.EachEventIsOneCriticalSection := by
  intro s rest hc hs window
  have hc' : wfCfg (withEvents rest s).cfg = true := hc
  have hs' : wfState (withEvents rest s) = true := hs
  have window' : (withEvents rest s).db = false := window
  refine ⟨fun words => ?hourPress, fun words => ?minutePress, fun words due => ?timer⟩
  case hourPress =>
    refine ⟨minuteSteps burstSteps (withEvents rest s),
      performAll_replicate_step burstSteps hc' hs', minuteSteps_events burstSteps _, ?_⟩
    rw [step_of_word words (decode_btnh_word true)]
    exact exec_btnh_acts hc' hs' ⟨window', rfl⟩
  case minutePress =>
    refine ⟨minuteStep (clearSeconds (withEvents rest s)),
      perform_next hc' (wfState_clearSeconds hs'), minuteStep_events _, ?_⟩
    rw [step_of_word words (decode_btnm_word true)]
    exact exec_btnm_acts hc' hs' ⟨window', rfl⟩
  case timer =>
    refine ⟨minuteStep (withEvents rest s), perform_next hc' hs', minuteStep_events _, ?_⟩
    rw [step_of_word words decode_timer_word]
    exact exec_timer_advances hc' hs' window' due

end Sys2Proof.Proofs
end

section
/-!
PROOF. The trigger front end (60_exceptions.md R150 to R156): the pending flags, and the schedules
that deliver a trace.
-/

namespace Sys2Proof.Machine

/-! ### Reading and writing a flag -/

section Flags

variable (p : Pending) (b : Bool) (src : Source)

@[simp] theorem isPending_setPending_same : isPending (setPending p b src) src = b := by
  cases src <;> rfl

theorem isPending_setPending_other {other : Source} (h : other ≠ src) :
    isPending (setPending p b src) other = isPending p other := by
  cases src with
  | timer => cases other with
    | timer => exact absurd rfl h
    | _ => rfl
  | minuteButton => cases other with
    | minuteButton => exact absurd rfl h
    | _ => rfl
  | hourButton => cases other with
    | hourButton => exact absurd rfl h
    | _ => rfl

@[simp] theorem setPending_setPending (a : Bool) :
    setPending (setPending p a src) b src = setPending p b src := by
  cases src <;> rfl

theorem setPending_pendingAtReset : setPending pendingAtReset false src = pendingAtReset := by
  cases src <;> rfl

end Flags

/-! ### What an act delivers -/

section Acts

variable {p : Pending} {src : Source}

theorem triggerAct_choose_raised (on : Bool) (raised : isPending p src = true) :
    triggerAct p (.choose src on) = (setPending p false src, [sourceEvent on src]) := if_pos raised

theorem triggerAct_choose_clear (on : Bool) (clear : isPending p src = false) :
    triggerAct p (.choose src on) = (p, []) :=
  if_neg (by rw [clear]; exact Bool.false_ne_true)

variable (rest : List TriggerAct)

theorem deliveredEvents_arrive :
    deliveredEvents p (.arrive src :: rest) = deliveredEvents (setPending p true src) rest := rfl

theorem deliveredEvents_choose_raised (on : Bool) (raised : isPending p src = true) :
    deliveredEvents p (.choose src on :: rest) =
      sourceEvent on src :: deliveredEvents (setPending p false src) rest := by
  rw [deliveredEvents, triggerAct_choose_raised on raised, List.singleton_append]

theorem deliveredEvents_choose_clear (on : Bool) (clear : isPending p src = false) :
    deliveredEvents p (.choose src on :: rest) = deliveredEvents p rest := by
  rw [deliveredEvents, triggerAct_choose_clear on clear, List.nil_append]

/-- A trigger that is chosen next makes one event and leaves its flag clear. -/
theorem deliveredEvents_arrive_choose (on : Bool) :
    deliveredEvents p (.arrive src :: .choose src on :: rest) =
      sourceEvent on src :: deliveredEvents (setPending p false src) rest := by
  rw [deliveredEvents_arrive, deliveredEvents_choose_raised rest on
    (isPending_setPending_same p true src), setPending_setPending]

end Acts

/-! ### Schedules of traces -/

theorem sourceEvent_fromDevice (on : Bool) (src : Source) :
    (sourceEvent on src).fromDevice = true := by
  cases src <;> rfl

/-- Every event of the device is a source's, at some level of the other button. -/
theorem exists_source_of_fromDevice {i : Instr} (h : i.fromDevice = true) :
    ∃ on src, sourceEvent on src = i := by
  cases i with
  | timer => exact ⟨true, .timer, rfl⟩
  | btnm on => exact ⟨on, .minuteButton, rfl⟩
  | btnh on => exact ⟨on, .hourButton, rfl⟩
  | _ => cases h

theorem triggerAct_fromDevice (p : Pending) (a : TriggerAct) :
    ∀ i ∈ (triggerAct p a).2, i.fromDevice = true := by
  intro i hi
  cases a with
  | arrive src => cases hi
  | choose src on =>
    by_cases raised : isPending p src = true
    · rw [triggerAct_choose_raised on raised, List.mem_singleton] at hi
      exact hi ▸ sourceEvent_fromDevice on src
    · rw [triggerAct_choose_clear on (Bool.eq_false_iff.2 raised)] at hi
      cases hi

theorem deliveredEvents_fromDevice (p : Pending) (acts : List TriggerAct) :
    ∀ i ∈ deliveredEvents p acts, i.fromDevice = true := by
  induction acts generalizing p with
  | nil =>
    intro i hi
    cases hi
  | cons a rest ih =>
    intro i hi
    obtain here | later := List.mem_append.1 hi
    · exact triggerAct_fromDevice p a i here
    · exact ih _ i later

/-- A trigger of each event's source, chosen at once, delivers the trace event by event. -/
theorem exists_schedule {is : List Instr} (device : ∀ i ∈ is, i.fromDevice = true) :
    ∃ acts, deliveredEvents pendingAtReset acts = is := by
  induction is with
  | nil => exact ⟨[], rfl⟩
  | cons i is ih =>
    obtain ⟨acts, delivered⟩ := ih fun j hj => device j (List.mem_cons_of_mem i hj)
    obtain ⟨on, src, rfl⟩ := exists_source_of_fromDevice (device i List.mem_cons_self)
    refine ⟨.arrive src :: .choose src on :: acts, ?_⟩
    rw [deliveredEvents_arrive_choose, setPending_pendingAtReset, delivered]

end Sys2Proof.Machine
end

section
/-!
PROOF. The statements on the trigger front end: O46, O47 and O48.
-/

namespace Sys2Proof.Proofs

open Sys2Proof.Machine

/-- Settles O46. -/
theorem pendingFlagHoldsOneTrigger : Obligations.PendingFlagHoldsOneTrigger := by
  refine fun p src on rest => ⟨?_, fun on' => ?_, ?_⟩
  · rw [deliveredEvents_arrive, deliveredEvents_arrive, deliveredEvents_arrive,
      setPending_setPending]
  · rw [deliveredEvents_arrive_choose, deliveredEvents_arrive_choose, setPending_setPending]
  · rw [deliveredEvents_arrive_choose,
      deliveredEvents_choose_clear rest on (isPending_setPending_same p false src)]

/-- Settles O47. -/
theorem everyDeviceTraceHasASchedule : Obligations.EveryDeviceTraceHasASchedule :=
  ⟨fun _ => exists_schedule, deliveredEvents_fromDevice⟩

/-- Settles O48. -/
theorem anyPendingSourceMayBeChosen : Obligations.AnyPendingSourceMayBeChosen :=
  fun p src on raised => ⟨setPending p false src, triggerAct_choose_raised on raised,
    isPending_setPending_same p false src, fun _ => isPending_setPending_other p false src⟩

end Sys2Proof.Proofs
end
